-- ==== Sys2Proof/Word.lean ====
section
/-! DEFINITION. The words of the hardware (00_scope.md R8: "Every value is an unsigned 32-bit word unless its width is given"). -/

namespace Sys2Proof

/-- A register, a data word, a key word: 32 bits, bit 0 the least significant (R8). -/
abbrev Word := BitVec 32

/-- One byte of a block as the host sees it (20_memory.md R61). -/
abbrev Byte := BitVec 8

end Sys2Proof
end

