-- ==== Sys2Proof/Syntax.lean ====
section
/-! DEFINITION. The syntax: a bus transaction as the ports carry it (30_encoding.md R80, R81), the register names (R91) and `Instr`, one constructor for each row of spec/opcode_table.json. -/

namespace Sys2Proof

/-- One transaction as it is presented on the bus ports (R80): `bus_we`, `bus_addr`, `bus_be`, `bus_wdata`. -/
structure Txn where
  we    : Bool
  addr  : BitVec 6
  be    : BitVec 4
  wdata : Word
  deriving DecidableEq, Repr

/-- The register names of the host notation (R91; 10_state.md R21). -/
inductive Reg where
  | id | cmd | status | cfg | rounds
  | key0 | key1 | key2 | key3
  | data0 | data1
  deriving DecidableEq, Repr

/-- The instructions of the engine: the register transactions of format BUS (R81 to R83), the bus-errored transactions
(R82 steps 1 to 4) and the command words of format CMD (R84, R85).
In the bus-errored rows `w` is `bus_we`, `a` is `bus_addr`, `b` is `bus_be`, `d` is `bus_wdata`.
A read has no operand: its `bus_wdata` "is ignored" (R91; log 17). -/
inductive Instr where
  -- R82 step 1, R174: a byte enable is 0 (the row is that of the lowest one, log 11)
  | buserrPartialBe0 (w : Bool) (a : BitVec 6) (b : BitVec 4) (d : Word)
  | buserrPartialBe1 (w : Bool) (a : BitVec 6) (b : BitVec 4) (d : Word)
  | buserrPartialBe2 (w : Bool) (a : BitVec 6) (b : BitVec 4) (d : Word)
  | buserrPartialBe3 (w : Bool) (a : BitVec 6) (b : BitVec 4) (d : Word)
  -- R82 step 2, R174: the offset is misaligned
  | buserrMisalignedAddr0 (w : Bool) (a : BitVec 6) (d : Word)
  | buserrMisalignedAddr1 (w : Bool) (a : BitVec 6) (d : Word)
  -- R82 step 3, R173: a reserved offset
  | buserrUnmapped14 (w : Bool) (d : Word)
  | buserrUnmapped18 (w : Bool) (d : Word)
  | buserrUnmapped1C (w : Bool) (d : Word)
  | buserrUnmapped38 (w : Bool) (d : Word)
  | buserrUnmapped3C (w : Bool) (d : Word)
  -- R82 step 4, R152
  | wrId (d : Word)
  -- R83, R151 to R172
  | rdId
  | rdCmd
  | wrCmd (c : Word)
  | rdStatus
  | wrStatus (d : Word)
  | rdCfg
  | wrCfg (d : Word)
  | rdRounds
  | wrRounds (d : Word)
  | rdKey0
  | wrKey0 (d : Word)
  | rdKey1
  | wrKey1 (d : Word)
  | rdKey2
  | wrKey2 (d : Word)
  | rdKey3
  | wrKey3 (d : Word)
  | rdData0
  | wrData0 (d : Word)
  | rdData1
  | wrData1 (d : Word)
  -- R84, R85: the command words
  | nop
  | enc
  | dec
  | illegalCmd (c : Word)
  deriving DecidableEq, Repr

end Sys2Proof
end

