-- ==== Sys2Proof/WellFormed.lean ====
section
/-! DEFINITION. Which terms of `Instr` an encoding stands for: the operand values that select the row (30_encoding.md R82, R85; opcode_table.json's match, mask and decode_order). -/

namespace Sys2Proof

/-- "A command word is legal if and only if it equals `0x00000000`, `0x00000001` or `0x00000002`" (R84). -/
def legalCmdWord (c : Word) : Bool :=
  c == 0x00000000#32 || c == 0x00000001#32 || c == 0x00000002#32

/-- The operands of a row are ones that select this row and no row before it in R82's order (log 11). -/
def Instr.wellFormed : Instr → Bool
  | .buserrPartialBe0 _ _ b _ => !b.getLsbD 0
  | .buserrPartialBe1 _ _ b _ => b.getLsbD 0 && !b.getLsbD 1
  | .buserrPartialBe2 _ _ b _ => b.getLsbD 0 && b.getLsbD 1 && !b.getLsbD 2
  | .buserrPartialBe3 _ _ b _ => b.getLsbD 0 && b.getLsbD 1 && b.getLsbD 2 && !b.getLsbD 3
  | .buserrMisalignedAddr0 _ a _ => a.getLsbD 0
  | .buserrMisalignedAddr1 _ a _ => !a.getLsbD 0 && a.getLsbD 1
  | .illegalCmd c => !legalCmdWord c
  | .buserrUnmapped14 _ _ | .buserrUnmapped18 _ _ | .buserrUnmapped1C _ _
  | .buserrUnmapped38 _ _ | .buserrUnmapped3C _ _ | .wrId _
  | .rdId | .rdCmd | .wrCmd _ | .rdStatus | .wrStatus _ | .rdCfg | .wrCfg _
  | .rdRounds | .wrRounds _ | .rdKey0 | .wrKey0 _ | .rdKey1 | .wrKey1 _
  | .rdKey2 | .wrKey2 _ | .rdKey3 | .wrKey3 _ | .rdData0 | .wrData0 _
  | .rdData1 | .wrData1 _ | .nop | .enc | .dec => true

end Sys2Proof
end

