-- ==== Sys2Proof/Decode.lean ====
section
/-! DEFINITION. The decoder of the two formats, BUS (30_encoding.md R81 to R83) and CMD (R84, R85), then the encoder written from the same tables; the bits of a word as spec/opcode_table.json numbers them. -/

namespace Sys2Proof

/-- Why bits are no instruction. -/
inductive DecodeError where
  /-- An offset that names none of the 16 word slots' rows. No 6-bit offset does (R82 covers every selector). -/
  | noSuchOffset (a : BitVec 6)
  /-- A selector wider than 11 bits (R81). -/
  | selectorTooWide
  /-- More bits than the stated length has. -/
  | bitsBeyondLength
  /-- A length that neither format has (R90). -/
  | noSuchLength
  deriving DecidableEq, Repr

/-- The offset of each register in the window (10_state.md R21). -/
def Reg.offset : Reg → BitVec 6
  | .id => 0x00#6
  | .cmd => 0x04#6
  | .status => 0x08#6
  | .cfg => 0x0C#6
  | .rounds => 0x10#6
  | .key0 => 0x20#6
  | .key1 => 0x24#6
  | .key2 => 0x28#6
  | .key3 => 0x2C#6
  | .data0 => 0x30#6
  | .data1 => 0x34#6

/-- `sel = bus_we ++ bus_addr[5:0] ++ bus_be[3:0]` (R81). -/
def Txn.sel (t : Txn) : BitVec 11 := BitVec.ofBool t.we ++ t.addr ++ t.be

/-- The transaction that a selector and a data word stand for: field `w` is bit 10, `a` bits 9:4, `b` bits 3:0 (R81). -/
def Txn.ofSel (sel : BitVec 11) (wdata : Word) : Txn where
  we    := sel.getLsbD 10
  addr  := sel.extractLsb' 4 6
  be    := sel.extractLsb' 0 4
  wdata := wdata

/-- The five rows of the reserved offsets (R82 step 3, R173), if `a` is one of them. -/
def decodeReserved (w : Bool) (a : BitVec 6) (d : Word) : Option Instr :=
  if a = 0x14#6 then some (.buserrUnmapped14 w d)
  else if a = 0x18#6 then some (.buserrUnmapped18 w d)
  else if a = 0x1C#6 then some (.buserrUnmapped1C w d)
  else if a = 0x38#6 then some (.buserrUnmapped38 w d)
  else if a = 0x3C#6 then some (.buserrUnmapped3C w d)
  else none

/-- The read rows of R83's table. -/
def decodeRead (a : BitVec 6) : Except DecodeError Instr :=
  if a = 0x00#6 then .ok .rdId
  else if a = 0x04#6 then .ok .rdCmd
  else if a = 0x08#6 then .ok .rdStatus
  else if a = 0x0C#6 then .ok .rdCfg
  else if a = 0x10#6 then .ok .rdRounds
  else if a = 0x20#6 then .ok .rdKey0
  else if a = 0x24#6 then .ok .rdKey1
  else if a = 0x28#6 then .ok .rdKey2
  else if a = 0x2C#6 then .ok .rdKey3
  else if a = 0x30#6 then .ok .rdData0
  else if a = 0x34#6 then .ok .rdData1
  else .error (.noSuchOffset a)

/-- R82 step 4 (the write to ID), then the write rows of R83's table. -/
def decodeWrite (a : BitVec 6) (d : Word) : Except DecodeError Instr :=
  if a = 0x00#6 then .ok (.wrId d)
  else if a = 0x04#6 then .ok (.wrCmd d)
  else if a = 0x08#6 then .ok (.wrStatus d)
  else if a = 0x0C#6 then .ok (.wrCfg d)
  else if a = 0x10#6 then .ok (.wrRounds d)
  else if a = 0x20#6 then .ok (.wrKey0 d)
  else if a = 0x24#6 then .ok (.wrKey1 d)
  else if a = 0x28#6 then .ok (.wrKey2 d)
  else if a = 0x2C#6 then .ok (.wrKey3 d)
  else if a = 0x30#6 then .ok (.wrData0 d)
  else if a = 0x34#6 then .ok (.wrData1 d)
  else .error (.noSuchOffset a)

/-- R82 steps 3 to 5 for a full, aligned access: a reserved offset, the write to ID, a register transaction. -/
def decodeOffset (w : Bool) (a : BitVec 6) (d : Word) : Except DecodeError Instr :=
  match decodeReserved w a d with
  | some i => .ok i
  | none => if w then decodeWrite a d else decodeRead a

/-- R82: the checks in their order; "the first check that matches decides". -/
def decodeTxn (t : Txn) : Except DecodeError Instr :=
  if t.be.getLsbD 0 = false then .ok (.buserrPartialBe0 t.we t.addr t.be t.wdata)
  else if t.be.getLsbD 1 = false then .ok (.buserrPartialBe1 t.we t.addr t.be t.wdata)
  else if t.be.getLsbD 2 = false then .ok (.buserrPartialBe2 t.we t.addr t.be t.wdata)
  else if t.be.getLsbD 3 = false then .ok (.buserrPartialBe3 t.we t.addr t.be t.wdata)
  else if t.addr.getLsbD 0 then .ok (.buserrMisalignedAddr0 t.we t.addr t.wdata)
  else if t.addr.getLsbD 1 then .ok (.buserrMisalignedAddr1 t.we t.addr t.wdata)
  else decodeOffset t.we t.addr t.wdata

/-- The command a CMD word stands for (R84, R85; opcode_table.json's decode_order 1 and 2). -/
def decodeCmd (c : Word) : Instr :=
  if c = 0x00000000#32 then .nop
  else if c = 0x00000001#32 then .enc
  else if c = 0x00000002#32 then .dec
  else .illegalCmd c

/-- An instruction's bits in the format they have: a transaction (BUS, R81) or a command word (CMD, R84). -/
inductive Encoded where
  | bus (t : Txn)
  | cmd (c : Word)
  deriving DecidableEq, Repr

/-- The decoder of both formats. -/
def decode : Encoded → Except DecodeError Instr
  | .bus t => decodeTxn t
  | .cmd c => .ok (decodeCmd c)

/-- A full-word read of the register at `a`, its data word 0 (R91: "A read's `wdata` is written `00000000`"). -/
def Txn.readAt (a : BitVec 6) : Txn := { we := false, addr := a, be := 0xF#4, wdata := 0#32 }

/-- A full-word write of `d` to the register at `a`. -/
def Txn.writeAt (a : BitVec 6) (d : Word) : Txn := { we := true, addr := a, be := 0xF#4, wdata := d }

/-- The transaction that carries an instruction's bits to the engine: its own, or for a command word the write of it to
CMD (R74: "Commands take effect only through the CMD write"). -/
def Encoded.txn : Encoded → Txn
  | .bus t => t
  | .cmd c => .writeAt Reg.cmd.offset c

/-- The encoding of each instruction (R81 to R85). -/
def encode : Instr → Encoded
  | .buserrPartialBe0 w a b d => .bus { we := w, addr := a, be := b, wdata := d }
  | .buserrPartialBe1 w a b d => .bus { we := w, addr := a, be := b, wdata := d }
  | .buserrPartialBe2 w a b d => .bus { we := w, addr := a, be := b, wdata := d }
  | .buserrPartialBe3 w a b d => .bus { we := w, addr := a, be := b, wdata := d }
  | .buserrMisalignedAddr0 w a d => .bus { we := w, addr := a, be := 0xF#4, wdata := d }
  | .buserrMisalignedAddr1 w a d => .bus { we := w, addr := a, be := 0xF#4, wdata := d }
  | .buserrUnmapped14 w d => .bus { we := w, addr := 0x14#6, be := 0xF#4, wdata := d }
  | .buserrUnmapped18 w d => .bus { we := w, addr := 0x18#6, be := 0xF#4, wdata := d }
  | .buserrUnmapped1C w d => .bus { we := w, addr := 0x1C#6, be := 0xF#4, wdata := d }
  | .buserrUnmapped38 w d => .bus { we := w, addr := 0x38#6, be := 0xF#4, wdata := d }
  | .buserrUnmapped3C w d => .bus { we := w, addr := 0x3C#6, be := 0xF#4, wdata := d }
  | .wrId d => .bus (.writeAt Reg.id.offset d)
  | .rdId => .bus (.readAt Reg.id.offset)
  | .rdCmd => .bus (.readAt Reg.cmd.offset)
  | .wrCmd c => .bus (.writeAt Reg.cmd.offset c)
  | .rdStatus => .bus (.readAt Reg.status.offset)
  | .wrStatus d => .bus (.writeAt Reg.status.offset d)
  | .rdCfg => .bus (.readAt Reg.cfg.offset)
  | .wrCfg d => .bus (.writeAt Reg.cfg.offset d)
  | .rdRounds => .bus (.readAt Reg.rounds.offset)
  | .wrRounds d => .bus (.writeAt Reg.rounds.offset d)
  | .rdKey0 => .bus (.readAt Reg.key0.offset)
  | .wrKey0 d => .bus (.writeAt Reg.key0.offset d)
  | .rdKey1 => .bus (.readAt Reg.key1.offset)
  | .wrKey1 d => .bus (.writeAt Reg.key1.offset d)
  | .rdKey2 => .bus (.readAt Reg.key2.offset)
  | .wrKey2 d => .bus (.writeAt Reg.key2.offset d)
  | .rdKey3 => .bus (.readAt Reg.key3.offset)
  | .wrKey3 d => .bus (.writeAt Reg.key3.offset d)
  | .rdData0 => .bus (.readAt Reg.data0.offset)
  | .wrData0 d => .bus (.writeAt Reg.data0.offset d)
  | .rdData1 => .bus (.readAt Reg.data1.offset)
  | .wrData1 d => .bus (.writeAt Reg.data1.offset d)
  | .nop => .cmd 0x00000000#32
  | .enc => .cmd 0x00000001#32
  | .dec => .cmd 0x00000002#32
  | .illegalCmd c => .cmd c

/-- The bits of a transaction that R82 steps 1 and 2 turn away before they look at the register offset. -/
def Txn.misformed (t : Txn) : Bool :=
  t.be != 0xF#4 || t.addr.getLsbD 0 || t.addr.getLsbD 1

/-- Bits numbered as spec/opcode_table.json numbers them, in the format their length tells (log 10):
32 bits are a CMD word; up to 16 bits are a selector (its data word 0); 48 bits are a selector and its data word in the
next 32 bits. In 8 bits stand the rows PARTIAL and MISALIGNED of format BUS and, where the bits are neither, the row
ILLEGAL_CMD of format CMD. -/
def Encoded.ofBits (nbits w : Nat) : Except DecodeError Encoded :=
  if nbits ≤ 8 then
    if w < 2 ^ 8 then
      let t := Txn.ofSel (BitVec.ofNat 11 w) 0#32
      .ok (if t.misformed then .bus t else .cmd (BitVec.ofNat 32 w))
    else .error .bitsBeyondLength
  else if nbits ≤ 16 then
    if w < 2 ^ 11 then .ok (.bus (.ofSel (BitVec.ofNat 11 w) 0#32)) else .error .selectorTooWide
  else if nbits ≤ 32 then
    if w < 2 ^ 32 then .ok (.cmd (BitVec.ofNat 32 w)) else .error .bitsBeyondLength
  else if nbits ≤ 48 then
    if w < 2 ^ 48 then
      if w % 2 ^ 16 < 2 ^ 11 then
        .ok (.bus (.ofSel (BitVec.ofNat 11 w) (BitVec.ofNat 32 (w / 2 ^ 16))))
      else .error .selectorTooWide
    else .error .bitsBeyondLength
  else .error .noSuchLength

/-- The instruction the decoder reads from bits numbered as the opcode table numbers them. -/
def decodeTableWord (nbits w : Nat) : Option Instr :=
  match Encoded.ofBits nbits w with
  | .error _ => none
  | .ok e =>
    match decode e with
    | .error _ => none
    | .ok i => some i

end Sys2Proof
end

