-- ==== Sys2Proof/Config.lean ====
section
/-! DEFINITION. The parameters the spec leaves to the platform (00_scope.md R7, entries marked OPEN): constants without a body, so that no proof can see their value. -/

namespace Sys2Proof

/-- Which 64-byte slot of the platform's address space holds the register window (R7 `XTEA_BASE`, OPEN; log 8). -/
opaque Config.xteaSlot : Nat

/-- `XTEA_BASE`: the base address of the register window. "It must be 64-byte aligned" (20_memory.md R68), which this form makes true. -/
def Config.xteaBase : Nat := 64 * Config.xteaSlot

/-- `IRQ_LINE`: which host interrupt input the `irq` output drives (60_exceptions.md R209, OPEN; log 8). -/
opaque Config.irqLine : Nat

/-- The register window's size in bytes (R7, 20_memory.md R68). -/
def Config.windowBytes : Nat := 64

end Sys2Proof
end

