-- ==== Sys2Proof/Machine/State.lean ====
section
/-! DEFINITION. The state: the engine's own tuple (10_state.md R20), the ports a step reads or drives (30_encoding.md R80), and what the model adds as plain data so that one step is a function: the agenda of the agents' moves (20_memory.md R70) and the host agents' faults (60_exceptions.md R204). -/

namespace Sys2Proof.Machine

/-- The operation in flight: `op`, "0 = ENC, 1 = DEC" (R34). -/
inductive Op where
  | enc
  | dec
  deriving DecidableEq, Repr

/-- `key[0..3]`, the registers KEY0 to KEY3 (R24). -/
structure Key where
  k0 : Word
  k1 : Word
  k2 : Word
  k3 : Word
  deriving DecidableEq, Repr

/-- The stored fields of STATUS (R27; log 13). -/
structure Status where
  busy    : Bool
  done    : Bool
  err     : Bool
  errCode : BitVec 4
  deriving DecidableEq, Repr

/-- The stored fields of CFG (R31; log 13). -/
structure Cfg where
  doneIe  : Bool
  errIe   : Bool
  keyLock : Bool
  deriving DecidableEq, Repr

/-- The engine's complete state (R20): the register file and the hidden working state (R34). ID and CMD have no storage
(R32, R33) and `irq` is a function of these fields (R208). -/
structure Engine where
  status : Status
  cfg    : Cfg
  rounds : Word
  key    : Key
  data0  : Word
  data1  : Word
  w0     : Word
  w1     : Word
  sum    : Word
  cnt    : Word
  n      : Word
  op     : Op
  deriving DecidableEq, Repr

/-- The causes of a bus error (R204). -/
inductive BusCause where
  | partialAccess
  | misaligned
  | unmapped
  | readOnly
  deriving DecidableEq, Repr

/-- What the engine drives on the bus in a transaction's cycle: `bus_rdata` and `bus_err` (R80, R150). -/
structure BusResponse where
  rdata : Word
  err   : Bool
  deriving DecidableEq, Repr

/-- "A fault of the issuing host agent, naming the cause" (R204). -/
structure HostFault where
  master : Nat
  cause  : BusCause
  deriving DecidableEq, Repr

/-- One move of an agent (R11, R70; log 3). -/
inductive Event where
  /-- Host agent `master` presents a transaction (one cycle with `bus_valid` = 1). -/
  | txn (master : Nat) (t : Txn)
  /-- The engine agent takes the step that is enabled, if one is (R137). -/
  | engine
  /-- The platform drives `rst_n` to 0, over a rising edge of `clk` (R230). -/
  | resetLow
  /-- The platform releases `rst_n` to 1 (R236 step 1). -/
  | resetHigh
  deriving DecidableEq, Repr

/-- The whole machine. `engine` is the hardware's own state. `resp` and `rstN` are ports. `agenda`, `issuer` and
`hostFaults` are the model's own fields (logs 3, 7, 1). -/
structure State where
  engine     : Engine
  /-- The bus response of the step just taken; none where that step took no transaction (log 5). -/
  resp       : Option BusResponse
  /-- The level of `rst_n` (log 6). -/
  rstN       : Bool
  /-- What the agents do next, oldest first (log 3). -/
  agenda     : List Event
  /-- The host agent whose transaction is being taken (log 7). -/
  issuer     : Nat
  /-- The bus errors taken so far, newest first (log 1). -/
  hostFaults : List HostFault
  deriving DecidableEq, Repr

/-- Why the machine stops with a fault: never. The transform "has no error conditions" (R36), no error stops the engine
(R200), and a bus error is a fault of the host agent that issued the transaction, held in `hostFaults`, after which the
engine goes on (R204; log 1). So the type has no constructor. -/
inductive Fault where
  deriving DecidableEq, Repr

/-- Why a step has no meaning. -/
inductive Refusal where
  /-- Raised by an arm of `exec` that has no meaning yet. Safe: nothing is claimed of it. -/
  | notModelled (mnemonic : String)
  /-- Raised by `hostStep` on a transaction presented while `rst_n` = 0: "a model **refuses** a host transaction issued
  during reset" (R233; log 6). Safe: the spec defines no response. -/
  | transactionInReset
  /-- Raised by `hostStep` on a transaction the decoder rejects. No transaction is one (R82 decides every selector).
  Safe: never taken. -/
  | undecodable
  deriving DecidableEq, Repr

/-- The engine's reset state (70_reset_and_hazards.md R231): every field at the value the spec states. -/
def Engine.reset : Engine where
  status := { busy := false, done := false, err := false, errCode := 0#4 }
  cfg    := { doneIe := false, errIe := false, keyLock := false }
  rounds := 0x00000020#32
  key    := { k0 := 0#32, k1 := 0#32, k2 := 0#32, k3 := 0#32 }
  data0  := 0#32
  data1  := 0#32
  w0     := 0#32
  w1     := 0#32
  sum    := 0#32
  cnt    := 0#32
  n      := 0#32
  op     := .enc

/-- The machine right after reset: the engine in its reset state, `rst_n` released, nothing on the bus; the model's own
fields empty (logs 3, 5, 6, 7). -/
def State.reset : State where
  engine     := Engine.reset
  resp       := none
  rstN       := true
  agenda     := []
  issuer     := 0
  hostFaults := []

/-- STATUS replaced. -/
def Engine.setStatus (e : Engine) (v : Status) : Engine := { e with status := v }

/-- CFG replaced. -/
def Engine.setCfg (e : Engine) (v : Cfg) : Engine := { e with cfg := v }

/-- ROUNDS replaced. -/
def Engine.setRounds (e : Engine) (v : Word) : Engine := { e with rounds := v }

/-- The key registers replaced. -/
def Engine.setKey (e : Engine) (v : Key) : Engine := { e with key := v }

/-- DATA0 replaced. -/
def Engine.setData0 (e : Engine) (v : Word) : Engine := { e with data0 := v }

/-- DATA1 replaced. -/
def Engine.setData1 (e : Engine) (v : Word) : Engine := { e with data1 := v }

/-- The engine's state replaced. -/
def State.setEngine (s : State) (e : Engine) : State := { s with engine := e }

/-- The bus response of this step replaced. -/
def State.setResp (s : State) (r : Option BusResponse) : State := { s with resp := r }

/-- The level of `rst_n` replaced. -/
def State.setRstN (s : State) (v : Bool) : State := { s with rstN := v }

/-- The agenda replaced. -/
def State.setAgenda (s : State) (v : List Event) : State := { s with agenda := v }

/-- The agent whose transaction is being taken replaced. -/
def State.setIssuer (s : State) (v : Nat) : State := { s with issuer := v }

/-- A host agent's fault recorded (R204). -/
def State.addHostFault (s : State) (f : HostFault) : State := { s with hostFaults := f :: s.hostFaults }

end Sys2Proof.Machine
end

