-- ==== Sys2Proof/Machine/Flags.lean ====
section
/-! DEFINITION. Every computation on flags the spec gives: the error codes and `flag_error` (60_exceptions.md R201, R202), the read values of STATUS and CFG (42_register_access.md R155, R157), their write rules (R156, R158), and `irq` (R208). -/

namespace Sys2Proof.Machine

/-- The register-protocol errors (R202). Codes 4 to 15 are "never produced". -/
inductive ProtocolError where
  | illegalCmd
  | writeWhileBusy
  | keyLocked
  deriving DecidableEq, Repr

/-- The code of each error (R202). -/
def ProtocolError.code : ProtocolError → BitVec 4
  | .illegalCmd => 1#4
  | .writeWhileBusy => 2#4
  | .keyLocked => 3#4

/-- `flag_error(code)` on the STATUS fields: "the first error is kept; this one is lost" where ERR is already 1 (R201). -/
def Status.flagError (p : ProtocolError) (st : Status) : Status :=
  if st.err then st else { st with err := true, errCode := p.code }

/-- `flag_error(code)` (R201). -/
def Engine.flagError (p : ProtocolError) (e : Engine) : Engine :=
  e.setStatus (e.status.flagError p)

/-- RD STATUS: `zext_32(ERR_CODE ++ 0b0 ++ ERR ++ DONE ++ BUSY)` (R155). -/
def Status.word (st : Status) : Word :=
  (st.errCode ++ 0#1 ++ BitVec.ofBool st.err ++ BitVec.ofBool st.done ++ BitVec.ofBool st.busy).setWidth 32

/-- WR STATUS: write-one-to-clear of DONE (bit 1) and of ERR with ERR_CODE (bit 2); every other bit is ignored (R156, R87). -/
def Status.write (d : Word) (st : Status) : Status where
  busy    := st.busy
  done    := if d.getLsbD 1 then false else st.done
  err     := if d.getLsbD 2 then false else st.err
  errCode := if d.getLsbD 2 then 0#4 else st.errCode

/-- RD CFG: `zext_32(KEY_LOCK ++ ERR_IE ++ DONE_IE)` (R157). -/
def Cfg.word (c : Cfg) : Word :=
  (BitVec.ofBool c.keyLock ++ BitVec.ofBool c.errIe ++ BitVec.ofBool c.doneIe).setWidth 32

/-- WR CFG: both enables take their bits; KEY_LOCK is write-one-to-set; bits 31:3 are ignored (R158, R88). -/
def Cfg.write (d : Word) (c : Cfg) : Cfg where
  doneIe  := d.getLsbD 0
  errIe   := d.getLsbD 1
  keyLock := c.keyLock || d.getLsbD 2

/-- `irq = (CFG.DONE_IE & STATUS.DONE) | (CFG.ERR_IE & STATUS.ERR)` (R208). -/
def Engine.irq (e : Engine) : Bool :=
  (e.cfg.doneIe && e.status.done) || (e.cfg.errIe && e.status.err)

/-- The level on a host's interrupt input: `irq` drives the input `IRQ_LINE` and no other (R209; log 8). -/
def Engine.hostIrqInput (e : Engine) (line : Nat) : Bool :=
  line == Config.irqLine && e.irq

end Sys2Proof.Machine
end

