-- ==== Sys2Proof/Machine/Transform.lean ====
section
/-! DEFINITION. The XTEA transform as pure functions (40_transform.md R100 to R107). All arithmetic is modulo 2^32 and both shifts are logical (R109). -/

namespace Sys2Proof.Machine

/-- `DELTA` (R100). -/
def delta : Word := 0x9E3779B9#32

/-- The mixing function F (R101). -/
def mixF (x : Word) : Word := ((x <<< 4) ^^^ (x >>> 5)) + x

/-- `key[i]` for an index of two bits: "the index is always in 0..3" (R102). -/
def Key.get (k : Key) (i : BitVec 2) : Word :=
  if i = 0#2 then k.k0 else if i = 1#2 then k.k1 else if i = 2#2 then k.k2 else k.k3

/-- `KA(s) = key[s & 3]` (R102). -/
def Key.ka (k : Key) (s : Word) : Word := k.get ((s &&& 3#32).setWidth 2)

/-- `KB(s) = key[(s >> 11) & 3]` (R102). -/
def Key.kb (k : Key) (s : Word) : Word := k.get (((s >>> 11) &&& 3#32).setWidth 2)

/-- The operands and the result of a round: `(v0, v1, s)` (R103, R106). -/
structure RoundState where
  v0  : Word
  v1  : Word
  sum : Word
  deriving DecidableEq, Repr

/-- EncRound: the three statements in their order, the third with the new `v0` and the new sum (R103). -/
def encRound (k : Key) (r : RoundState) : RoundState :=
  let v0 := r.v0 + (mixF r.v1 ^^^ (r.sum + k.ka r.sum))
  let sum := r.sum + delta
  let v1 := r.v1 + (mixF v0 ^^^ (sum + k.kb sum))
  { v0 := v0, v1 := v1, sum := sum }

/-- DecRound: EncRound's statements undone in reverse order (R106). -/
def decRound (k : Key) (r : RoundState) : RoundState :=
  let v1 := r.v1 - (mixF r.v0 ^^^ (r.sum + k.kb r.sum))
  let sum := r.sum - delta
  let v0 := r.v0 - (mixF v1 ^^^ (sum + k.ka sum))
  { v0 := v0, v1 := v1, sum := sum }

/-- `m` encipher rounds (R104's `repeat`). -/
def encRounds (k : Key) : Nat → RoundState → RoundState
  | 0, r => r
  | m + 1, r => encRound k (encRounds k m r)

/-- `m` decipher rounds (R107's `repeat`). -/
def decRounds (k : Key) : Nat → RoundState → RoundState
  | 0, r => r
  | m + 1, r => decRound k (decRounds k m r)

/-- A block `(v0, v1)` (GLOSSARY). -/
structure Block where
  v0 : Word
  v1 : Word
  deriving DecidableEq, Repr

/-- The two block words of a round's state: "the final `s` is not part of the result" (R104). -/
def RoundState.block (r : RoundState) : Block := { v0 := r.v0, v1 := r.v1 }

/-- ENC's starting sum: 0 (R104, R132). DEC's: `n * DELTA` modulo 2^32 (R107, R133). -/
def startSum (op : Op) (n : Word) : Word :=
  match op with
  | .enc => 0#32
  | .dec => n * delta

/-- Encipher(n, v, key) (R104). -/
def encipher (n : Word) (v : Block) (k : Key) : Block :=
  (encRounds k n.toNat { v0 := v.v0, v1 := v.v1, sum := startSum .enc n }).block

/-- Decipher(n, v, key) (R107). -/
def decipher (n : Word) (v : Block) (k : Key) : Block :=
  (decRounds k n.toNat { v0 := v.v0, v1 := v.v1, sum := startSum .dec n }).block

/-- One round of the operation `op` (R134's choice). -/
def roundOf (op : Op) (k : Key) (r : RoundState) : RoundState :=
  match op with
  | .enc => encRound k r
  | .dec => decRound k r

/-- `m` rounds of the operation `op`. -/
def roundsOf (op : Op) (k : Key) (m : Nat) (r : RoundState) : RoundState :=
  match op with
  | .enc => encRounds k m r
  | .dec => decRounds k m r

/-- The result of the operation `op` (R136). -/
def transformOf (op : Op) (n : Word) (v : Block) (k : Key) : Block :=
  match op with
  | .enc => encipher n v k
  | .dec => decipher n v k

end Sys2Proof.Machine
end

