-- ==== Sys2Proof/Machine/Operands.lean ====
section
/-! DEFINITION. Every operand form: the read value of each register (42_register_access.md), the block and working words as operands of the transform, the byte order of a block (20_memory.md R61), and the platform's addresses of the window (00_scope.md R10, 20_memory.md R68). -/

namespace Sys2Proof.Machine

/-- ID: hard-wired, ASCII "XTEA" (10_state.md R32; log 12). -/
def idValue : Word := 0x58544541#32

/-- What a bus read of each register returns (R151 to R171): KEY0 to KEY3 and CMD read 0 (R153, R161, R163, R165, R167). -/
def Engine.read (e : Engine) : Reg → Word
  | .id => idValue
  | .cmd => 0#32
  | .status => e.status.word
  | .cfg => e.cfg.word
  | .rounds => e.rounds
  | .key0 => 0#32
  | .key1 => 0#32
  | .key2 => 0#32
  | .key3 => 0#32
  | .data0 => e.data0
  | .data1 => e.data1

/-- The block operand: `(DATA0, DATA1)` (10_state.md R22, R23). -/
def Engine.block (e : Engine) : Block := { v0 := e.data0, v1 := e.data1 }

/-- The running values `(w0, w1, sum)` (R34). -/
def Engine.work (e : Engine) : RoundState := { v0 := e.w0, v1 := e.w1, sum := e.sum }

/-- A big-endian 32-bit word of four bytes in address order (R61). -/
def wordOfBytes (b0 b1 b2 b3 : Byte) : Word := b0 ++ b1 ++ b2 ++ b3

/-- Eight bytes in address or stream order. -/
structure BlockBytes where
  b0 : Byte
  b1 : Byte
  b2 : Byte
  b3 : Byte
  b4 : Byte
  b5 : Byte
  b6 : Byte
  b7 : Byte
  deriving DecidableEq, Repr

/-- The block that eight bytes stand for: `b[0..3]` to DATA0, `b[4..7]` to DATA1, big-endian (R61). -/
def BlockBytes.toBlock (b : BlockBytes) : Block where
  v0 := wordOfBytes b.b0 b.b1 b.b2 b.b3
  v1 := wordOfBytes b.b4 b.b5 b.b6 b.b7

/-- The eight bytes a block is written out as: `DATA0[31:24]` first, `DATA1[7:0]` last (R61). -/
def Block.toBytes (v : Block) : BlockBytes where
  b0 := v.v0.extractLsb' 24 8
  b1 := v.v0.extractLsb' 16 8
  b2 := v.v0.extractLsb' 8 8
  b3 := v.v0.extractLsb' 0 8
  b4 := v.v1.extractLsb' 24 8
  b5 := v.v1.extractLsb' 16 8
  b6 := v.v1.extractLsb' 8 8
  b7 := v.v1.extractLsb' 0 8

/-- The word a little-endian host loads from the same four bytes, `b[3] ++ b[2] ++ b[1] ++ b[0]` (70_reset_and_hazards.md R241). -/
def littleEndianLoad (b0 b1 b2 b3 : Byte) : Word := b3 ++ b2 ++ b1 ++ b0

/-- The host's swap of a word's bytes, which R241 asks of a little-endian host. -/
def byteSwap (x : Word) : Word :=
  x.extractLsb' 0 8 ++ x.extractLsb' 8 8 ++ x.extractLsb' 16 8 ++ x.extractLsb' 24 8

/-- The window offset of a platform address, where the address lies in the window (R68). Elsewhere it is the platform's
concern and the engine sees no transaction (log 8). -/
def windowOffset (addr : Nat) : Option (BitVec 6) :=
  if Config.xteaBase ≤ addr ∧ addr < Config.xteaBase + Config.windowBytes then
    some (BitVec.ofNat 6 (addr - Config.xteaBase))
  else none

/-- `MemRead(addr, 4)`, meaning `BusRead(addr - XTEA_BASE)` (00_scope.md R10). -/
def memRead (addr : Nat) : Option Txn := (windowOffset addr).map Txn.readAt

/-- `MemWrite(addr, 4, v)`, meaning `BusWrite(addr - XTEA_BASE, v)` (00_scope.md R10). -/
def memWrite (addr : Nat) (v : Word) : Option Txn := (windowOffset addr).map fun a => Txn.writeAt a v

end Sys2Proof.Machine
end

