-- ==== Sys2Proof/Machine/Ops.lean ====
section
/-! DEFINITION. The shared operations of the transactions: the three outcomes of a transaction (42_register_access.md R150), the two error reports (60_exceptions.md R200), the acknowledgement that clears them (R211), and reset (70_reset_and_hazards.md R231). -/

namespace Sys2Proof.Machine

/-- The outcome of a step of this machine. -/
abbrev StepOutcome := Host.Outcome State Fault Refusal

/-- Read accepted: `bus_rdata` is the register's value, `bus_err` = 0, no state change (R150). -/
def readReg (r : Reg) (s : State) : StepOutcome :=
  .next (s.setResp (some { rdata := s.engine.read r, err := false }))

/-- Write accepted: the engine's state becomes `e`, `bus_rdata` = 0, `bus_err` = 0 (R150). -/
def acceptWrite (e : Engine) (s : State) : StepOutcome :=
  .next ((s.setEngine e).setResp (some { rdata := 0#32, err := false }))

/-- A write the register protocol refuses: "still *accepted* on the bus", its only change is `flag_error` (R150, R201, R210). -/
def refuseWrite (p : ProtocolError) (s : State) : StepOutcome :=
  acceptWrite (s.engine.flagError p) s

/-- `raise BusError(cause)`: `bus_err` = 1, `bus_rdata` = 0, no register, flag, working state or `irq` changes, and the
issuing host agent faults with the cause (R204; log 1). -/
def busError (cause : BusCause) (s : State) : StepOutcome :=
  .next ((s.setResp (some { rdata := 0#32, err := true })).addHostFault { master := s.issuer, cause := cause })

/-- A host "returns" from an error or a completion by writing 1 to its STATUS bit (R211): the W1C rule of WR STATUS (R156). -/
def acknowledge (d : Word) (s : State) : StepOutcome :=
  acceptWrite (s.engine.setStatus (s.engine.status.write d)) s

/-- A write that is refused with code 2 while busy and else changes the engine by `f`
(R160, R170, R172, and the commands of R130). -/
def writeWhenIdle (f : Engine → Engine) (s : State) : StepOutcome :=
  if s.engine.status.busy then refuseWrite .writeWhileBusy s else acceptWrite (f s.engine) s

/-- A key write: refused with code 2 while busy, with code 3 while locked, else the key becomes `f` of it
(R162, R164, R166, R168). -/
def writeKeyWhenUnlocked (f : Key → Key) (s : State) : StepOutcome :=
  if s.engine.status.busy then refuseWrite .writeWhileBusy s
  else if s.engine.cfg.keyLock then refuseWrite .keyLocked s
  else acceptWrite (s.engine.setKey (f s.engine.key)) s

/-- The acceptance of an operation, in one step (R132, R133). -/
def Engine.accept (op : Op) (e : Engine) : Engine :=
  { e with
    w0 := e.data0, w1 := e.data1, n := e.rounds, cnt := 0#32, op := op, sum := startSum op e.rounds,
    status := { e.status with busy := true, done := false } }

/-- A rising edge at which `rst_n` = 0: the engine takes the reset state of R231 (R230), an operation in flight is
aborted (R232), and no transaction is taken (R233). What the host agents have seen stays theirs (log 19). -/
def resetEdge (s : State) : State :=
  (s.setEngine Engine.reset).setResp none

end Sys2Proof.Machine
end

