-- ==== Sys2Proof/Machine/BusErrors.lean ====
section
/-! DEFINITION. The transactions the register window does not take (30_encoding.md R82 steps 1 to 4; 42_register_access.md R152, R173, R174). -/

namespace Sys2Proof.Machine

/-- BUSERR_PARTIAL, `be[0]` = 0 (R174). -/
def execBuserrPartialBe0 (s : State) : StepOutcome := busError .partialAccess s

/-- BUSERR_PARTIAL, `be[1]` = 0 (R174). -/
def execBuserrPartialBe1 (s : State) : StepOutcome := busError .partialAccess s

/-- BUSERR_PARTIAL, `be[2]` = 0 (R174). -/
def execBuserrPartialBe2 (s : State) : StepOutcome := busError .partialAccess s

/-- BUSERR_PARTIAL, `be[3]` = 0 (R174). -/
def execBuserrPartialBe3 (s : State) : StepOutcome := busError .partialAccess s

/-- BUSERR_MISALIGNED, `addr[0]` = 1 (R174). -/
def execBuserrMisalignedAddr0 (s : State) : StepOutcome := busError .misaligned s

/-- BUSERR_MISALIGNED, `addr[1]` = 1 (R174). -/
def execBuserrMisalignedAddr1 (s : State) : StepOutcome := busError .misaligned s

/-- BUSERR_UNMAPPED, offset 0x14 (R173). -/
def execBuserrUnmapped14 (s : State) : StepOutcome := busError .unmapped s

/-- BUSERR_UNMAPPED, offset 0x18 (R173). -/
def execBuserrUnmapped18 (s : State) : StepOutcome := busError .unmapped s

/-- BUSERR_UNMAPPED, offset 0x1C (R173). -/
def execBuserrUnmapped1C (s : State) : StepOutcome := busError .unmapped s

/-- BUSERR_UNMAPPED, offset 0x38 (R173). -/
def execBuserrUnmapped38 (s : State) : StepOutcome := busError .unmapped s

/-- BUSERR_UNMAPPED, offset 0x3C (R173). -/
def execBuserrUnmapped3C (s : State) : StepOutcome := busError .unmapped s

/-- WR ID, the write to a read-only register (R152). -/
def execWrId (s : State) : StepOutcome := busError .readOnly s

end Sys2Proof.Machine
end

