-- ==== Sys2Proof/Machine/Commands.lean ====
section
/-! DEFINITION. The commands, each as the write of its word to CMD (41_commands.md R130 to R133; 30_encoding.md R85), and WR CMD, which dispatches to them. -/

namespace Sys2Proof.Machine

/-- NOP: when idle, no state changes (R131); while busy, code 2 (R130). -/
def execNop (s : State) : StepOutcome := writeWhenIdle (fun e => e) s

/-- ENC: acceptance of an encipher operation (R132); while busy, code 2 (R130). -/
def execEnc (s : State) : StepOutcome := writeWhenIdle (Engine.accept .enc) s

/-- DEC: acceptance of a decipher operation (R133); while busy, code 2 (R130). -/
def execDec (s : State) : StepOutcome := writeWhenIdle (Engine.accept .dec) s

/-- An illegal command word: ignored, with code 1 when idle and code 2 while busy (R85, R130). -/
def execIllegalCmd (s : State) : StepOutcome := writeWhenIdle (Engine.flagError .illegalCmd) s

/-- WR CMD: the dispatch of R130 (R154). -/
def execWrCmd (c : Word) (s : State) : StepOutcome :=
  if s.engine.status.busy then refuseWrite .writeWhileBusy s
  else if c.extractLsb' 4 28 ≠ 0#28 ∨ ¬(c.extractLsb' 0 4 = 0#4 ∨ c.extractLsb' 0 4 = 1#4 ∨ c.extractLsb' 0 4 = 2#4) then
    refuseWrite .illegalCmd s
  else if c = 0x00000000#32 then execNop s
  else if c = 0x00000001#32 then execEnc s
  else execDec s

end Sys2Proof.Machine
end

