-- ==== Sys2Proof/Machine/Reads.lean ====
section
/-! DEFINITION. The register reads (42_register_access.md R151 to R171). -/

namespace Sys2Proof.Machine

/-- RD ID (R151). -/
def execRdId (s : State) : StepOutcome := readReg .id s

/-- RD CMD (R153). -/
def execRdCmd (s : State) : StepOutcome := readReg .cmd s

/-- RD STATUS (R155). -/
def execRdStatus (s : State) : StepOutcome := readReg .status s

/-- RD CFG (R157). -/
def execRdCfg (s : State) : StepOutcome := readReg .cfg s

/-- RD ROUNDS (R159). -/
def execRdRounds (s : State) : StepOutcome := readReg .rounds s

/-- RD KEY0 (R161). -/
def execRdKey0 (s : State) : StepOutcome := readReg .key0 s

/-- RD KEY1 (R163). -/
def execRdKey1 (s : State) : StepOutcome := readReg .key1 s

/-- RD KEY2 (R165). -/
def execRdKey2 (s : State) : StepOutcome := readReg .key2 s

/-- RD KEY3 (R167). -/
def execRdKey3 (s : State) : StepOutcome := readReg .key3 s

/-- RD DATA0 (R169). -/
def execRdData0 (s : State) : StepOutcome := readReg .data0 s

/-- RD DATA1 (R171). -/
def execRdData1 (s : State) : StepOutcome := readReg .data1 s

end Sys2Proof.Machine
end

