-- ==== Sys2Proof/Machine/Writes.lean ====
section
/-! DEFINITION. The register writes other than CMD and ID (42_register_access.md R156 to R172). -/

namespace Sys2Proof.Machine

/-- WR STATUS: write-one-to-clear, allowed while busy (R156). -/
def execWrStatus (d : Word) (s : State) : StepOutcome := acknowledge d s

/-- WR CFG: allowed while busy (R158). -/
def execWrCfg (d : Word) (s : State) : StepOutcome :=
  acceptWrite (s.engine.setCfg (s.engine.cfg.write d)) s

/-- WR ROUNDS (R160). -/
def execWrRounds (d : Word) (s : State) : StepOutcome := writeWhenIdle (fun e => e.setRounds d) s

/-- WR KEY0 (R162). -/
def execWrKey0 (d : Word) (s : State) : StepOutcome := writeKeyWhenUnlocked (fun k => { k with k0 := d }) s

/-- WR KEY1 (R164). -/
def execWrKey1 (d : Word) (s : State) : StepOutcome := writeKeyWhenUnlocked (fun k => { k with k1 := d }) s

/-- WR KEY2 (R166). -/
def execWrKey2 (d : Word) (s : State) : StepOutcome := writeKeyWhenUnlocked (fun k => { k with k2 := d }) s

/-- WR KEY3 (R168). -/
def execWrKey3 (d : Word) (s : State) : StepOutcome := writeKeyWhenUnlocked (fun k => { k with k3 := d }) s

/-- WR DATA0 (R170). -/
def execWrData0 (d : Word) (s : State) : StepOutcome := writeWhenIdle (fun e => e.setData0 d) s

/-- WR DATA1 (R172). -/
def execWrData1 (d : Word) (s : State) : StepOutcome := writeWhenIdle (fun e => e.setData1 d) s

end Sys2Proof.Machine
end

