-- ==== Sys2Proof/Machine/Dispatch.lean ====
section
/-! DEFINITION. The dispatch: one arm per constructor of `Instr`. -/

namespace Sys2Proof.Machine

/-- The meaning of each instruction. -/
def exec (i : Instr) (s : State) : Host.Outcome State Fault Refusal :=
  match i with
  | .buserrPartialBe0 _ _ _ _ => Sys2Proof.Machine.execBuserrPartialBe0 s
  | .buserrPartialBe1 _ _ _ _ => Sys2Proof.Machine.execBuserrPartialBe1 s
  | .buserrPartialBe2 _ _ _ _ => Sys2Proof.Machine.execBuserrPartialBe2 s
  | .buserrPartialBe3 _ _ _ _ => Sys2Proof.Machine.execBuserrPartialBe3 s
  | .buserrMisalignedAddr0 _ _ _ => Sys2Proof.Machine.execBuserrMisalignedAddr0 s
  | .buserrMisalignedAddr1 _ _ _ => Sys2Proof.Machine.execBuserrMisalignedAddr1 s
  | .buserrUnmapped14 _ _ => Sys2Proof.Machine.execBuserrUnmapped14 s
  | .buserrUnmapped18 _ _ => Sys2Proof.Machine.execBuserrUnmapped18 s
  | .buserrUnmapped1C _ _ => Sys2Proof.Machine.execBuserrUnmapped1C s
  | .buserrUnmapped38 _ _ => Sys2Proof.Machine.execBuserrUnmapped38 s
  | .buserrUnmapped3C _ _ => Sys2Proof.Machine.execBuserrUnmapped3C s
  | .wrId _ => Sys2Proof.Machine.execWrId s
  | .rdId => Sys2Proof.Machine.execRdId s
  | .rdCmd => Sys2Proof.Machine.execRdCmd s
  | .wrCmd c => Sys2Proof.Machine.execWrCmd c s
  | .rdStatus => Sys2Proof.Machine.execRdStatus s
  | .wrStatus d => Sys2Proof.Machine.execWrStatus d s
  | .rdCfg => Sys2Proof.Machine.execRdCfg s
  | .wrCfg d => Sys2Proof.Machine.execWrCfg d s
  | .rdRounds => Sys2Proof.Machine.execRdRounds s
  | .wrRounds d => Sys2Proof.Machine.execWrRounds d s
  | .rdKey0 => Sys2Proof.Machine.execRdKey0 s
  | .wrKey0 d => Sys2Proof.Machine.execWrKey0 d s
  | .rdKey1 => Sys2Proof.Machine.execRdKey1 s
  | .wrKey1 d => Sys2Proof.Machine.execWrKey1 d s
  | .rdKey2 => Sys2Proof.Machine.execRdKey2 s
  | .wrKey2 d => Sys2Proof.Machine.execWrKey2 d s
  | .rdKey3 => Sys2Proof.Machine.execRdKey3 s
  | .wrKey3 d => Sys2Proof.Machine.execWrKey3 d s
  | .rdData0 => Sys2Proof.Machine.execRdData0 s
  | .wrData0 d => Sys2Proof.Machine.execWrData0 d s
  | .rdData1 => Sys2Proof.Machine.execRdData1 s
  | .wrData1 d => Sys2Proof.Machine.execWrData1 d s
  | .nop => Sys2Proof.Machine.execNop s
  | .enc => Sys2Proof.Machine.execEnc s
  | .dec => Sys2Proof.Machine.execDec s
  | .illegalCmd _ => Sys2Proof.Machine.execIllegalCmd s

end Sys2Proof.Machine
end

