-- ==== Sys2Proof/Machine/Sequencer.lean ====
section
/-! DEFINITION. The engine agent (41_commands.md R134, R135, R137). -/

namespace Sys2Proof.Machine

/-- The working registers replaced by a round's result. -/
def Engine.setWork (e : Engine) (r : RoundState) : Engine := { e with w0 := r.v0, w1 := r.v1, sum := r.sum }

/-- The round step, the key words read from KEY0 to KEY3 at the step (R134). -/
def Engine.roundStep (e : Engine) : Engine :=
  { e.setWork (roundOf e.op e.key e.work) with cnt := e.cnt + 1#32 }

/-- The completion step: DATA0, DATA1, BUSY and DONE in one step (R135). -/
def Engine.completionStep (e : Engine) : Engine :=
  { e with data0 := e.w0, data1 := e.w1, status := { e.status with busy := false, done := true } }

/-- The enabled step of the engine agent: a round step while `cnt < n`, the completion step at `cnt = n`, none while
idle (R134, R135). A busy engine with `cnt > n` has no enabled step; no run reaches one (R40 item 4; log 14). -/
def Engine.agentStep (e : Engine) : Engine :=
  if e.status.busy then
    if e.cnt = e.n then e.completionStep
    else if e.cnt < e.n then e.roundStep
    else e
  else e

/-- `LAT(n) = n + 1`: the engine steps of an operation of `n` rounds (R137; in cycles, R243: "no rule of the model
depends on" it). -/
def latency (n : Word) : Nat := n.toNat + 1

/-- `m` engine steps with nothing between them. -/
def Engine.agentSteps : Nat → Engine → Engine
  | 0, e => e
  | m + 1, e => Engine.agentSteps m e.agentStep

end Sys2Proof.Machine
end

