-- ==== Sys2Proof/Machine/Agents.lean ====
section
/-! DEFINITION. One move of each agent (00_scope.md R11): a host's transaction, the engine's step, the platform's reset pin; and the move the agenda names next (20_memory.md R70). -/

namespace Sys2Proof.Machine

/-- Host agent `m` presents the transaction `t`: it is decoded (30_encoding.md R82) and runs. While `rst_n` = 0 it is
refused (70_reset_and_hazards.md R233). -/
def hostStep (m : Nat) (t : Txn) (s : State) : StepOutcome :=
  if s.rstN then
    match decodeTxn t with
    | .ok i => exec i (s.setIssuer m)
    | .error _ => .refused .undecodable
  else .refused .transactionInReset

/-- An edge without a transaction: the engine agent takes its enabled step (R137), or the reset state while `rst_n` = 0
(R230). -/
def engineStep (s : State) : State :=
  if s.rstN then (s.setEngine s.engine.agentStep).setResp none else resetEdge s

/-- The platform drives `rst_n` to 0 over a rising edge (R230, R232). -/
def resetLowStep (s : State) : State := (resetEdge s).setRstN false

/-- The platform releases `rst_n` (R236 step 1): nothing else changes. -/
def resetHighStep (s : State) : State := (s.setRstN true).setResp none

/-- The move of the agent that an event names. -/
def eventStep (ev : Event) (s : State) : StepOutcome :=
  match ev with
  | .txn m t => hostStep m t s
  | .engine => .next (engineStep s)
  | .resetLow => .next (resetLowStep s)
  | .resetHigh => .next (resetHighStep s)

/-- The next move: the oldest entry of the agenda, taken off it; with an empty agenda the engine agent moves, which is
R137's progress (log 4). -/
def nextMove (s : State) : StepOutcome :=
  match s.agenda with
  | [] => .next (engineStep s)
  | ev :: rest => eventStep ev (s.setAgenda rest)

/-- The state `s` in which the very next move is a host's transaction of the bits `w`, numbered as the opcode table
numbers them (logs 3, 10); `rst_n` is released, or the engine would take no transaction (R233). -/
def placeNext (s : State) (nbits w : Nat) : State :=
  match Encoded.ofBits nbits w with
  | .ok e => (s.setAgenda (.txn s.issuer e.txn :: s.agenda)).setRstN true
  | .error _ => s

end Sys2Proof.Machine
end

