-- ==== Sys2Proof/Machine/Step.lean ====
section
/-! DEFINITION. One step of the machine: one move of one agent, in the one order of 20_memory.md R70. -/

namespace Sys2Proof.Machine

/-- One step: the next move of the agenda (`nextMove`). -/
def step (s : State) : Host.Outcome State Fault Refusal := nextMove s

/-- `s` with the instruction of the bits `w` placed where `step` takes its next move (`placeNext`). -/
def State.withFetchWord (s : State) (nbits w : Nat) : State := placeNext s nbits w

end Sys2Proof.Machine
end

