-- ==== Sys2Proof/Machine/HostNotation.lean ====
section
/-! DEFINITION. The host notation, the pseudo-instructions with their expansions (30_encoding.md R91, R92), and the runs a host program admits: the exchanges on the bus that are its expansion. -/

namespace Sys2Proof.Machine

/-- `BusWrite(off(<reg>), d)` (R91). A raw offset `[0xNN]` is `Txn.writeAt`. -/
def wr (r : Reg) (d : Word) : Txn := .writeAt r.offset d

/-- `BusRead(off(<reg>))` (R91). A raw offset `[0xNN]` is `Txn.readAt`. -/
def rd (r : Reg) : Txn := .readAt r.offset

/-- "A program's encoding is its list of transactions, each written `sel:wdata`" (R91). -/
def programEncoding (p : List Txn) : List (BitVec 11 × Word) := p.map fun t => (t.sel, t.wdata)

/-- A host variable `<var>` (R91). -/
abbrev HostVar := Nat

/-- A line of a host program: the notation of R91, with `<reg>` as its offset, and the host loop POLL of R92, which the
other pseudo-instructions expand to. -/
inductive HostInstr where
  /-- `WR <reg>, <imm32>`. -/
  | write (a : BitVec 6) (d : Word)
  /-- `RD <var>, <reg>`. -/
  | read (x : HostVar) (a : BitVec 6)
  /-- `POLL <reg>, <mask>, <val>`. -/
  | poll (a : BitVec 6) (mask val : Word)
  deriving DecidableEq, Repr

/-- `WR <reg>, <imm32>` (R91). -/
def hostWr (r : Reg) (d : Word) : HostInstr := .write r.offset d

/-- `RD <var>, <reg>` (R91). -/
def hostRd (x : HostVar) (r : Reg) : HostInstr := .read x r.offset

/-- `POLL <reg>, <mask>, <val>` (R92). -/
def hostPoll (r : Reg) (mask val : Word) : HostInstr := .poll r.offset mask val

/-- The command word of an operation (R84). -/
def cmdWord : Op → Word
  | .enc => 0x00000001#32
  | .dec => 0x00000002#32

/-- `CMD NOP` (R92). -/
def cmdNop : List HostInstr := [hostWr .cmd 0x00000000#32]

/-- `CMD ENC` and `CMD DEC` (R92). -/
def cmdOp (op : Op) : List HostInstr := [hostWr .cmd (cmdWord op)]

/-- `ACK DONE` (R92). -/
def ackDone : List HostInstr := [hostWr .status 0x00000002#32]

/-- `ACK ERR` (R92). -/
def ackErr : List HostInstr := [hostWr .status 0x00000004#32]

/-- `ACK ALL` (R92). -/
def ackAll : List HostInstr := [hostWr .status 0x00000006#32]

/-- `WAITDONE`: `POLL STATUS, 0x00000003, 0x00000002` (R92). -/
def waitDone : List HostInstr := [hostPoll .status 0x00000003#32 0x00000002#32]

/-- `WAITIDLE`: `POLL STATUS, 0x00000001, 0x00000000` (R92). -/
def waitIdle : List HostInstr := [hostPoll .status 0x00000001#32 0x00000000#32]

/-- `SETKEY k0, k1, k2, k3` (R92). -/
def setKey (k : Key) : List HostInstr :=
  [hostWr .key0 k.k0, hostWr .key1 k.k1, hostWr .key2 k.k2, hostWr .key3 k.k3]

/-- `XENC a, b -> r0, r1` and `XDEC a, b -> r0, r1` (R92). -/
def xOp (op : Op) (a b : Word) (r0 r1 : HostVar) : List HostInstr :=
  [hostWr .data0 a, hostWr .data1 b] ++ cmdOp op ++ waitDone ++ [hostRd r0 .data0, hostRd r1 .data1]

/-- POLL's test of a value read: `(t & mask) = val` (R92). -/
def pollPasses (mask val t : Word) : Bool := (t &&& mask) == val

/-- One transaction of a host agent with the response it got (R80). -/
structure Exchange where
  txn  : Txn
  resp : BusResponse
  deriving DecidableEq, Repr

/-- The bindings of host variables, in the order they are made. -/
abbrev Bindings := List (HostVar × Word)

/-- `<var> <- BusRead(off(<reg>))` (R91). A bus-errored read is a fault of the host and no value (R204): nothing is bound
(log 2). -/
def Exchange.bind (x : HostVar) (e : Exchange) (bs : Bindings) : Bindings :=
  if e.resp.err then bs else (x, e.resp.rdata) :: bs

/-- Whether the exchanges of one host agent, oldest first, are an expansion of the program, and which values its RD lines
then bind. A POLL takes its reads one by one: it repeats while the test fails and ends at the first read that passes (R92).
Its reads are as many as there are (log 18); a bus-errored one gives the test no value. -/
def hostRun : List HostInstr → List Exchange → Option Bindings
  | [], [] => some []
  | [], _ :: _ => none
  | _ :: _, [] => none
  | .write a d :: p, e :: es => if e.txn = .writeAt a d then hostRun p es else none
  | .read x a :: p, e :: es => if e.txn = .readAt a then (hostRun p es).map (e.bind x) else none
  | .poll a mask val :: p, e :: es =>
    if e.txn = .readAt a ∧ e.resp.err = false then
      if pollPasses mask val e.resp.rdata then hostRun p es else hostRun (.poll a mask val :: p) es
    else none

/-- The exchange of host agent `m` in a step from `s` to `t`, if that step was its transaction. -/
def exchangeOf (m : Nat) (s t : State) : List Exchange :=
  match s.agenda, t.resp with
  | .txn m' x :: _, some r => if m' = m then [{ txn := x, resp := r }] else []
  | .txn _ _ :: _, none => []
  | .engine :: _, _ => []
  | .resetLow :: _, _ => []
  | .resetHigh :: _, _ => []
  | [], _ => []

/-- The exchanges of host agent `m` in the first `k` steps from `s`, oldest first; a run ends where a step answers no next
state. -/
def exchanges (m : Nat) : Nat → State → List Exchange
  | 0, _ => []
  | k + 1, s =>
    match step s with
    | .next t => exchangeOf m s t ++ exchanges m k t
    | .fault _ => []
    | .refused _ => []

/-- Host agent `m` runs the program `p` in the first `k` steps from `s`, whatever else is interleaved, and its RD lines
bind `bs`. -/
def runsProgram (m : Nat) (p : List HostInstr) (k : Nat) (s : State) (bs : Bindings) : Prop :=
  hostRun p (exchanges m k s) = some bs

/-- The transactions a line issues, a POLL with `fails` reads that fail before the one that passes (R92). -/
def HostInstr.txns (fails : Nat) : HostInstr → List Txn
  | .write a d => [.writeAt a d]
  | .read _ a => [.readAt a]
  | .poll a _ _ => List.replicate (fails + 1) (.readAt a)

/-- Host agent `m` issues the transactions of a program in their order, with nothing between them, each POLL with `fails`
failing reads. Which agendas are runs of the program is `runsProgram`'s to say. -/
def issue (m : Nat) (fails : Nat) (p : List HostInstr) : List Event :=
  (p.map (HostInstr.txns fails)).flatten.map (Event.txn m)

end Sys2Proof.Machine
end

