-- ==== Sys2Proof/Safety.lean ====
section
/-! DEFINITION. The terms claims use: which move comes next, the invariants of 10_state.md R40, and what a host may rely on (70_reset_and_hazards.md R238, R239). -/

namespace Sys2Proof.Machine

/-- The next move is a host's transaction `t`, and the engine takes transactions. -/
def State.presents (s : State) (t : Txn) : Prop :=
  s.rstN = true ∧ ∃ m rest, s.agenda = .txn m t :: rest

/-- The next move is the engine agent's, out of reset. -/
def State.engineMoves (s : State) : Prop :=
  s.rstN = true ∧ (s.agenda = [] ∨ ∃ rest, s.agenda = .engine :: rest)

/-- The next move is a rising edge at which `rst_n` = 0 (R230). -/
def State.resetsNext (s : State) : Prop :=
  (∃ rest, s.agenda = .resetLow :: rest) ∨
    (s.rstN = false ∧ (s.agenda = [] ∨ ∃ rest, s.agenda = .engine :: rest))

/-- The next move is the acceptance of an ENC or DEC command (R132, R133). -/
def State.acceptsNext (s : State) (op : Op) : Prop :=
  s.engine.status.busy = false ∧ s.presents (wr .cmd (cmdWord op))

/-- The next move is the completion step (R135). -/
def State.completesNext (s : State) : Prop :=
  s.engineMoves ∧ s.engine.status.busy = true ∧ s.engine.cnt = s.engine.n

/-- R40 items 1 to 4. -/
structure Engine.StatusInv (e : Engine) : Prop where
  busy_not_done : e.status.busy = true → e.status.done = false
  no_err_no_code : e.status.err = false → e.status.errCode = 0#4
  err_code_range : e.status.err = true → e.status.errCode = 1#4 ∨ e.status.errCode = 2#4 ∨ e.status.errCode = 3#4
  cnt_le_n : e.status.busy = true → e.cnt ≤ e.n

/-- While an operation is in flight, `n` is ROUNDS and the running values are `cnt` rounds of the operation on the block
in DATA0 and DATA1 (R134, R139, R159: what R136 rests on). -/
def Engine.WorkInv (e : Engine) : Prop :=
  e.status.busy = true →
    e.n = e.rounds ∧
      e.work = roundsOf e.op e.key e.cnt.toNat { v0 := e.data0, v1 := e.data1, sum := startSum e.op e.n }

/-- The invariant of the machine: it speaks of the engine alone. -/
structure State.Inv (s : State) : Prop where
  status : s.engine.StatusInv
  work : s.engine.WorkInv

/-- A host may read the result: BUSY = 0 and DONE = 1 (R238). -/
def Engine.resultReady (e : Engine) : Bool := !e.status.busy && e.status.done

/-- A host may write CMD, ROUNDS, KEY*n* and DATA*n* without a refusal for being busy: BUSY = 0 (R239). -/
def Engine.writable (e : Engine) : Bool := !e.status.busy

/-- Host agent `m` has had a bus error: it is stopped by a fault unless its platform ignores the response (R204; log 2). -/
def State.hostFaulted (s : State) (m : Nat) : Bool := s.hostFaults.any fun f => f.master == m

/-- No register-protocol error is recorded and no host agent has faulted. -/
def State.clean (s : State) : Bool := !s.engine.status.err && s.hostFaults.isEmpty

/-- The state after a read that returned `v`: nothing but the bus response (R150). -/
def State.afterRead (s : State) (v : Word) : State :=
  { s with resp := some { rdata := v, err := false } }

/-- The state after an accepted write that left the engine at `e` (R150). -/
def State.afterWrite (s : State) (e : Engine) : State :=
  { s with engine := e, resp := some { rdata := 0#32, err := false } }

/-- The state after a bus error: the response, the issuing agent's fault, no register (R204; log 1). -/
def State.afterBusError (s : State) (c : BusCause) : State :=
  { s with
    resp := some { rdata := 0#32, err := true }
    hostFaults := { master := s.issuer, cause := c } :: s.hostFaults }

/-- The engine with the error `code` recorded where no error was, and unchanged where one was (R201). -/
def Engine.recorded (e : Engine) (code : BitVec 4) : Engine :=
  match e.status.err with
  | true => e
  | false => { e with status := { e.status with err := true, errCode := code } }

/-- The engine at the acceptance of an operation whose starting sum is `sum` (R132, R133), written out. -/
def Engine.started (e : Engine) (op : Op) (sum : Word) : Engine :=
  { e with
    w0 := e.data0, w1 := e.data1, n := e.rounds, cnt := 0#32, op := op, sum := sum
    status := { e.status with busy := true, done := false } }

/-- The reserved offsets of the window (R68). -/
def reservedOffsets : List (BitVec 6) := [0x14#6, 0x18#6, 0x1C#6, 0x38#6, 0x3C#6]

/-- The key registers. -/
def keyRegs : List Reg := [.key0, .key1, .key2, .key3]

/-- The registers whose writes are refused while busy (R202, code 2). -/
def busyRegs : List Reg := [.cmd, .rounds, .key0, .key1, .key2, .key3, .data0, .data1]

/-- The engine with its hidden working state blanked: what any observer can tell apart (R34, R39). -/
def Engine.hideWork (e : Engine) : Engine :=
  { e with w0 := 0#32, w1 := 0#32, sum := 0#32, cnt := 0#32, n := 0#32, op := .enc }

/-- The engine with its key blanked (R24: write-only). -/
def Engine.hideKey (e : Engine) : Engine :=
  { e with key := { k0 := 0#32, k1 := 0#32, k2 := 0#32, k3 := 0#32 } }

end Sys2Proof.Machine
end

