-- ==== Sys2Proof/Certificates/Slice0/Obligations.lean ====
section
/-! DEFINITION. The statements for the provers. `State.afterRead`, `State.afterWrite`, `State.afterBusError`, `Engine.recorded` and `Engine.started` (Safety.lean) are records written out: each says its whole frame. -/

open Sys2Proof Sys2Proof.Machine

/-- R83: the 21 register transactions, and WR ID of R82 step 4, from their selectors, whatever `wdata` is. -/
def Obligations.RegisterTransactionsDecodeFromTheirSelectors : Prop :=
  ∀ d : Word,
    decodeTxn (.ofSel 0x00F#11 d) = .ok .rdId ∧
    decodeTxn (.ofSel 0x04F#11 d) = .ok .rdCmd ∧
    decodeTxn (.ofSel 0x44F#11 d) = .ok (.wrCmd d) ∧
    decodeTxn (.ofSel 0x08F#11 d) = .ok .rdStatus ∧
    decodeTxn (.ofSel 0x48F#11 d) = .ok (.wrStatus d) ∧
    decodeTxn (.ofSel 0x0CF#11 d) = .ok .rdCfg ∧
    decodeTxn (.ofSel 0x4CF#11 d) = .ok (.wrCfg d) ∧
    decodeTxn (.ofSel 0x10F#11 d) = .ok .rdRounds ∧
    decodeTxn (.ofSel 0x50F#11 d) = .ok (.wrRounds d) ∧
    decodeTxn (.ofSel 0x20F#11 d) = .ok .rdKey0 ∧
    decodeTxn (.ofSel 0x60F#11 d) = .ok (.wrKey0 d) ∧
    decodeTxn (.ofSel 0x24F#11 d) = .ok .rdKey1 ∧
    decodeTxn (.ofSel 0x64F#11 d) = .ok (.wrKey1 d) ∧
    decodeTxn (.ofSel 0x28F#11 d) = .ok .rdKey2 ∧
    decodeTxn (.ofSel 0x68F#11 d) = .ok (.wrKey2 d) ∧
    decodeTxn (.ofSel 0x2CF#11 d) = .ok .rdKey3 ∧
    decodeTxn (.ofSel 0x6CF#11 d) = .ok (.wrKey3 d) ∧
    decodeTxn (.ofSel 0x30F#11 d) = .ok .rdData0 ∧
    decodeTxn (.ofSel 0x70F#11 d) = .ok (.wrData0 d) ∧
    decodeTxn (.ofSel 0x34F#11 d) = .ok .rdData1 ∧
    decodeTxn (.ofSel 0x74F#11 d) = .ok (.wrData1 d) ∧
    decodeTxn (.ofSel 0x40F#11 d) = .ok (.wrId d)

/-- R81: the fields of the selector, and that a transaction is its selector and its data word. -/
def Obligations.SelectorIsWeThenAddrThenBe : Prop :=
  (∀ t : Txn, t.sel.getLsbD 10 = t.we ∧ t.sel.extractLsb' 4 6 = t.addr ∧ t.sel.extractLsb' 0 4 = t.be ∧
      Txn.ofSel t.sel t.wdata = t) ∧
    ∀ (sel : BitVec 11) (d : Word), (Txn.ofSel sel d).sel = sel ∧ (Txn.ofSel sel d).wdata = d

/-- R84: the legal command words by their fields OP and RSV, and the command each stands for. -/
def Obligations.LegalCommandWordsAreThree : Prop :=
  decodeCmd 0x00000000#32 = .nop ∧ decodeCmd 0x00000001#32 = .enc ∧ decodeCmd 0x00000002#32 = .dec ∧
    ∀ c : Word,
      ((c.extractLsb' 4 28 = 0#28 ∧ (c.extractLsb' 0 4 = 0x0#4 ∨ c.extractLsb' 0 4 = 0x1#4 ∨ c.extractLsb' 0 4 = 0x2#4)) ↔
        (c = 0x00000000#32 ∨ c = 0x00000001#32 ∨ c = 0x00000002#32)) ∧
      (legalCmdWord c = true ↔ (c = 0x00000000#32 ∨ c = 0x00000001#32 ∨ c = 0x00000002#32))

/-- Every transaction is decoded, to a well-formed instruction (R82 covers every selector). -/
def Obligations.EveryTransactionDecodes : Prop :=
  ∀ t : Txn, ∃ i, decodeTxn t = .ok i ∧ i.wellFormed = true

/-- Decode and encode agree, for every well-formed instruction and every operand value (both formats). -/
def Obligations.DecodeOfEncodeIsTheInstruction : Prop :=
  ∀ i : Instr, i.wellFormed = true → decode (encode i) = .ok i

/-- The other direction: the encoding of a decoded transaction is that transaction, but that an accepted read's ignored
`wdata` is written 0 (R91). -/
def Obligations.EncodeOfDecodeIsTheTransaction : Prop :=
  ∀ (t : Txn) (i : Instr), decodeTxn t = .ok i →
    encode i = .bus t ∨
      (t.we = false ∧ t.be = 0xF#4 ∧ t.addr.extractLsb' 0 2 = 0#2 ∧ t.addr ∉ reservedOffsets ∧
        encode i = .bus { t with wdata := 0#32 })

/-- A step whose next move is a host's transaction runs the decoded instruction, with the entry taken off the agenda and
the agent noted (the agenda and the note are the model's form of R70, logs 3 and 7). -/
def Obligations.StepRunsTheDecodedTransaction : Prop :=
  ∀ (s : State) (m : Nat) (t : Txn) (rest : List Event) (i : Instr),
    s.rstN = true → s.agenda = .txn m t :: rest → decodeTxn t = .ok i →
      step s = exec i { s with agenda := rest, issuer := m }

/-- A command word runs as the command it is decoded to: WR CMD of a word is NOP, ENC, DEC or ILLEGAL_CMD. -/
def Obligations.WrCmdRunsTheDecodedCommand : Prop :=
  ∀ (c : Word) (s : State), exec (.wrCmd c) s = exec (decodeCmd c) s

/-- R82: the checks of a transaction in their order, each with its outcome. The record of the issuing agent's fault in
`hostFaults` is the model's form of R204's "fault of the issuing host agent, naming the cause" (log 1). -/
def Obligations.SelectorChecksRunInOrder : Prop :=
  ∀ (m : Nat) (t : Txn) (s : State), s.rstN = true →
    (t.be ≠ 0xF#4 → 
      hostStep m t s = .next (({ s with issuer := m } : State).afterBusError .partialAccess)) ∧
    (t.be = 0xF#4 → t.addr.extractLsb' 0 2 ≠ 0#2 →
      hostStep m t s = .next (({ s with issuer := m } : State).afterBusError .misaligned)) ∧
    (t.be = 0xF#4 → t.addr ∈ reservedOffsets →
      hostStep m t s = .next (({ s with issuer := m } : State).afterBusError .unmapped)) ∧
    (t.be = 0xF#4 → t.we = true → t.addr = 0x00#6 →
      hostStep m t s = .next (({ s with issuer := m } : State).afterBusError .readOnly)) ∧
    (t.be = 0xF#4 → t.addr.extractLsb' 0 2 = 0#2 → t.addr ∉ reservedOffsets → ¬(t.we = true ∧ t.addr = 0x00#6) →
      ∃ (u : State) (v : Word), hostStep m t s = .next u ∧ u.resp = some { rdata := v, err := false } ∧
        u.hostFaults = s.hostFaults)

/-- The twelve bus-errored rows: the response, no register, flag or working state changed, the agent's fault recorded
(R204; the record is the model's form, log 1). -/
def Obligations.BusErrorRowsAnswerErrAndChangeNoRegister : Prop :=
  ∀ (s : State) (w : Bool) (a : BitVec 6) (b : BitVec 4) (d : Word),
    exec (.buserrPartialBe0 w a b d) s = .next (s.afterBusError .partialAccess) ∧
    exec (.buserrPartialBe1 w a b d) s = .next (s.afterBusError .partialAccess) ∧
    exec (.buserrPartialBe2 w a b d) s = .next (s.afterBusError .partialAccess) ∧
    exec (.buserrPartialBe3 w a b d) s = .next (s.afterBusError .partialAccess) ∧
    exec (.buserrMisalignedAddr0 w a d) s = .next (s.afterBusError .misaligned) ∧
    exec (.buserrMisalignedAddr1 w a d) s = .next (s.afterBusError .misaligned) ∧
    exec (.buserrUnmapped14 w d) s = .next (s.afterBusError .unmapped) ∧
    exec (.buserrUnmapped18 w d) s = .next (s.afterBusError .unmapped) ∧
    exec (.buserrUnmapped1C w d) s = .next (s.afterBusError .unmapped) ∧
    exec (.buserrUnmapped38 w d) s = .next (s.afterBusError .unmapped) ∧
    exec (.buserrUnmapped3C w d) s = .next (s.afterBusError .unmapped) ∧
    exec (.wrId d) s = .next (s.afterBusError .readOnly)

/-- R151, R153, R161, R163, R165, R167, and the reads of ROUNDS and DATA: the value returned and nothing else changed. -/
def Obligations.ReadsReturnTheirRegister : Prop :=
  ∀ s : State,
    exec .rdId s = .next (s.afterRead 0x58544541#32) ∧
    exec .rdCmd s = .next (s.afterRead 0x00000000#32) ∧
    exec .rdRounds s = .next (s.afterRead s.engine.rounds) ∧
    exec .rdKey0 s = .next (s.afterRead 0x00000000#32) ∧
    exec .rdKey1 s = .next (s.afterRead 0x00000000#32) ∧
    exec .rdKey2 s = .next (s.afterRead 0x00000000#32) ∧
    exec .rdKey3 s = .next (s.afterRead 0x00000000#32) ∧
    exec .rdData0 s = .next (s.afterRead s.engine.data0) ∧
    exec .rdData1 s = .next (s.afterRead s.engine.data1)

/-- R155: where each field of STATUS stands, what a busy engine reads, and what reads straight after an acceptance. -/
def Obligations.RdStatusPlacesItsFields : Prop :=
  ∀ s : State,
    (∃ v : Word, exec .rdStatus s = .next (s.afterRead v) ∧
      v.getLsbD 0 = s.engine.status.busy ∧ v.getLsbD 1 = s.engine.status.done ∧
      v.getLsbD 2 = s.engine.status.err ∧ v.getLsbD 3 = false ∧
      v.extractLsb' 4 4 = s.engine.status.errCode ∧ v.extractLsb' 8 24 = 0#24 ∧
      (s.engine.StatusInv → s.engine.status.busy = true → v &&& 0xFFFFFF0B#32 = 0x00000001#32)) ∧
    (s.engine.status.busy = false → ∀ i ∈ [Instr.enc, Instr.dec], ∃ (u : State) (v : Word),
      exec i s = .next u ∧ exec .rdStatus u = .next (u.afterRead v) ∧ v.getLsbD 0 = true ∧ v.getLsbD 1 = false)

/-- R157: where each field of CFG stands, and what reads after a write of ones. -/
def Obligations.RdCfgPlacesItsFields : Prop :=
  ∀ s : State,
    (∃ v : Word, exec .rdCfg s = .next (s.afterRead v) ∧
      v.getLsbD 0 = s.engine.cfg.doneIe ∧ v.getLsbD 1 = s.engine.cfg.errIe ∧ v.getLsbD 2 = s.engine.cfg.keyLock ∧
      v.extractLsb' 3 29 = 0#29) ∧
    ∃ u : State, exec (.wrCfg 0xFFFFFFFF#32) s = .next u ∧ exec .rdCfg u = .next (u.afterRead 0x00000007#32)

/-- R156, R87: WR STATUS clears DONE by bit 1 and ERR with ERR_CODE by bit 2 and changes nothing else; `irq` falls in the
same step where the cleared bit was its only cause. -/
def Obligations.WrStatusClearsByWritingOne : Prop :=
  ∀ (d : Word) (s : State), ∃ e : Engine, exec (.wrStatus d) s = .next (s.afterWrite e) ∧
    e = { s.engine with status := {
            busy := s.engine.status.busy
            done := s.engine.status.done && !d.getLsbD 1
            err := s.engine.status.err && !d.getLsbD 2
            errCode := if d.getLsbD 2 = true then 0#4 else s.engine.status.errCode } } ∧
    (d.getLsbD 1 = true → (s.engine.cfg.errIe && s.engine.status.err) = false → e.irq = false) ∧
    (d.getLsbD 2 = true → (s.engine.cfg.doneIe && s.engine.status.done) = false → e.irq = false)

/-- R158, R88: WR CFG writes the enables, sets but never clears KEY_LOCK, and changes `irq` in the same step. -/
def Obligations.WrCfgWritesEnablesAndSetsLock : Prop :=
  ∀ (d : Word) (s : State), ∃ e : Engine, exec (.wrCfg d) s = .next (s.afterWrite e) ∧
    e = { s.engine with cfg := {
            doneIe := d.getLsbD 0
            errIe := d.getLsbD 1
            keyLock := s.engine.cfg.keyLock || d.getLsbD 2 } } ∧
    e.irq = ((d.getLsbD 0 && s.engine.status.done) || (d.getLsbD 1 && s.engine.status.err))

/-- WR ROUNDS: stored whole when idle, every value legal; refused with code 2 while busy. -/
def Obligations.WrRoundsStoresWhenIdle : Prop :=
  ∀ (d : Word) (s : State),
    (s.engine.status.busy = false → exec (.wrRounds d) s = .next (s.afterWrite { s.engine with rounds := d })) ∧
    (s.engine.status.busy = true → exec (.wrRounds d) s = .next (s.afterWrite (s.engine.recorded 2#4)))

/-- R162, R164, R166, R168: a key write when idle and unlocked, while busy, and when idle and locked; and
that the next accepted ENC or DEC starts with the key written. -/
def Obligations.WrKeyStoresWhenIdleAndUnlocked : Prop :=
  ∀ (d : Word) (s : State),
    (s.engine.status.busy = false → s.engine.cfg.keyLock = false →
      exec (.wrKey0 d) s = .next (s.afterWrite { s.engine with key := { s.engine.key with k0 := d } }) ∧
      exec (.wrKey1 d) s = .next (s.afterWrite { s.engine with key := { s.engine.key with k1 := d } }) ∧
      exec (.wrKey2 d) s = .next (s.afterWrite { s.engine with key := { s.engine.key with k2 := d } }) ∧
      exec (.wrKey3 d) s = .next (s.afterWrite { s.engine with key := { s.engine.key with k3 := d } })) ∧
    ∀ i ∈ [Instr.wrKey0 d, Instr.wrKey1 d, Instr.wrKey2 d, Instr.wrKey3 d],
      (s.engine.status.busy = true → exec i s = .next (s.afterWrite (s.engine.recorded 2#4))) ∧
      (s.engine.status.busy = false → s.engine.cfg.keyLock = true →
        exec i s = .next (s.afterWrite (s.engine.recorded 3#4))) ∧
      (s.engine.status.busy = false → s.engine.cfg.keyLock = false → ∀ j ∈ [Instr.enc, Instr.dec],
        ∃ u v : State, exec i s = .next u ∧ exec j u = .next v ∧ v.engine.status.busy = true ∧ v.engine.key = u.engine.key)

/-- R170, R172: a write to DATA0 or DATA1 when idle, and while busy. -/
def Obligations.WrDataStoresWhenIdle : Prop :=
  ∀ (d : Word) (s : State),
    (s.engine.status.busy = false →
      exec (.wrData0 d) s = .next (s.afterWrite { s.engine with data0 := d }) ∧
      exec (.wrData1 d) s = .next (s.afterWrite { s.engine with data1 := d })) ∧
    (s.engine.status.busy = true →
      exec (.wrData0 d) s = .next (s.afterWrite (s.engine.recorded 2#4)) ∧
      exec (.wrData1 d) s = .next (s.afterWrite (s.engine.recorded 2#4)))

/-- R130, R154: the dispatch of a word written to CMD. -/
def Obligations.WrCmdDispatches : Prop :=
  ∀ (c : Word) (s : State),
    (s.engine.status.busy = true → exec (.wrCmd c) s = .next (s.afterWrite (s.engine.recorded 2#4))) ∧
    (s.engine.status.busy = false →
      ((c.extractLsb' 4 28 ≠ 0#28 ∨ c.extractLsb' 0 4 ∉ [0x0#4, 0x1#4, 0x2#4]) →
        exec (.wrCmd c) s = .next (s.afterWrite (s.engine.recorded 1#4))) ∧
      (c = 0x00000000#32 → exec (.wrCmd c) s = .next (s.afterWrite s.engine)) ∧
      (c = 0x00000001#32 → exec (.wrCmd c) s = .next (s.afterWrite (s.engine.started .enc 0#32))) ∧
      (c = 0x00000002#32 →
        exec (.wrCmd c) s = .next (s.afterWrite (s.engine.started .dec (s.engine.rounds * 0x9E3779B9#32)))))

/-- R131: NOP changes no state of the engine when idle, and is refused with code 2 while busy. -/
def Obligations.NopChangesNothing : Prop :=
  encode .nop = .cmd 0x00000000#32 ∧ ∀ s : State,
    (s.engine.status.busy = false → exec .nop s = .next (s.afterWrite s.engine)) ∧
    (s.engine.status.busy = true → exec .nop s = .next (s.afterWrite (s.engine.recorded 2#4)))

/-- R85: every other command word is ignored and recorded. -/
def Obligations.IllegalCommandIsIgnoredAndRecorded : Prop :=
  ∀ (c : Word) (s : State),
    ((c.extractLsb' 4 28 ≠ 0#28 ∨ 3 ≤ (c.extractLsb' 0 4).toNat) → decodeCmd c = .illegalCmd c) ∧
    (s.engine.status.busy = false → exec (.illegalCmd c) s = .next (s.afterWrite (s.engine.recorded 1#4))) ∧
    (s.engine.status.busy = true → exec (.illegalCmd c) s = .next (s.afterWrite (s.engine.recorded 2#4)))

/-- The acceptance of ENC and of DEC (R132, R133), in one step, and their refusal while busy. -/
def Obligations.EncAndDecAreAcceptedWhenIdle : Prop :=
  ∀ s : State,
    (s.engine.status.busy = false →
      exec .enc s = .next (s.afterWrite { s.engine with
        w0 := s.engine.data0, w1 := s.engine.data1, n := s.engine.rounds, cnt := 0#32, op := .enc, sum := 0#32
        status := { s.engine.status with busy := true, done := false } }) ∧
      exec .dec s = .next (s.afterWrite { s.engine with
        w0 := s.engine.data0, w1 := s.engine.data1, n := s.engine.rounds, cnt := 0#32, op := .dec
        sum := s.engine.rounds * 0x9E3779B9#32
        status := { s.engine.status with busy := true, done := false } })) ∧
    (s.engine.status.busy = true →
      exec .enc s = .next (s.afterWrite (s.engine.recorded 2#4)) ∧
      exec .dec s = .next (s.afterWrite (s.engine.recorded 2#4)))

/-- R134: the round step of the engine agent, in every state in which it is enabled. -/
def Obligations.RoundStepTakesOneRound : Prop :=
  ∀ (e : Engine) (r : RoundState), e.status.busy = true → e.cnt < e.n →
    (e.op = .enc → r = encRound e.key ⟨e.w0, e.w1, e.sum⟩) →
    (e.op = .dec → r = decRound e.key ⟨e.w0, e.w1, e.sum⟩) →
      e.agentStep = { e with w0 := r.v0, w1 := r.v1, sum := r.sum, cnt := e.cnt + 1#32 }

/-- R135: the completion step of the engine agent, in every state in which it is enabled. -/
def Obligations.CompletionStepWritesTheResult : Prop :=
  ∀ e : Engine, e.status.busy = true → e.cnt = e.n →
    e.agentStep = { e with
      data0 := e.w0, data1 := e.w1
      status := { e.status with busy := false, done := true } } ∧
    (e.cfg.doneIe = true → e.agentStep.irq = true)

/-- The machine's step where the engine's move comes next: it is the engine agent's step. In an idle engine no engine step
is enabled (R134, R135) and the agent's step changes nothing; nor does it in a busy engine with `cnt` > `n`, which no run
reaches (R40 item 4): that it then stays as it is, is the model's choice (log 14). That an empty agenda is the
engine's move, and that no bus response is held, are the model's choices (logs 3, 4, 5). -/
def Obligations.EngineMoveIsTheAgentStep : Prop :=
  (∀ s : State, s.engineMoves →
    step s = .next { s with engine := s.engine.agentStep, resp := none, agenda := s.agenda.tail }) ∧
  ∀ e : Engine,
    (e.status.busy = false → e.agentStep = e) ∧
    (e.status.busy = true → e.n < e.cnt → e.agentStep = e)

/-- R201's `flag_error`, with the code of each cause (R202): the first error is kept, a later one is lost. -/
def Obligations.FlagErrorKeepsTheFirst : Prop :=
  ProtocolError.illegalCmd.code = 1#4 ∧ ProtocolError.writeWhileBusy.code = 2#4 ∧ ProtocolError.keyLocked.code = 3#4 ∧
    ∀ (p q : ProtocolError) (e : Engine),
      e.flagError p = e.recorded p.code ∧ (e.flagError p).flagError q = e.flagError p

/-- R35: ERR and ERR_CODE change only by `flag_error`, with the causes R202 lists, by a write to STATUS with bit 2 = 1, or
by reset. Over every step of the model's interleaving (log 3). -/
def Obligations.ErrChangesOnlyByItsCauses : Prop :=
  ∀ s t : State, step s = .next t →
    (t.engine.status.err ≠ s.engine.status.err ∨ t.engine.status.errCode ≠ s.engine.status.errCode) →
      s.resetsNext ∨
      (∃ d : Word, s.presents (wr .status d) ∧ d.getLsbD 2 = true ∧
        t.engine.status.err = false ∧ t.engine.status.errCode = 0#4) ∨
      (s.engine.status.err = false ∧ t.engine.status.err = true ∧
        ∃ (r : Reg) (d : Word), s.presents (wr r d) ∧
          ((t.engine.status.errCode = 1#4 ∧ s.engine.status.busy = false ∧ r = .cmd ∧ legalCmdWord d = false) ∨
           (t.engine.status.errCode = 2#4 ∧ s.engine.status.busy = true ∧ r ∈ busyRegs) ∨
           (t.engine.status.errCode = 3#4 ∧ s.engine.status.busy = false ∧ s.engine.cfg.keyLock = true ∧ r ∈ keyRegs)))

/-- R205: one transaction raises at most one error, by priority: a bus error, in R204's order of causes, whatever the engine
does; else code 2 while busy, code 3 for a key write when locked, code 1 for an illegal word, each with a normal bus response
and no host fault. The record of a bus error as the issuing agent's fault is the model's form (log 1). -/
def Obligations.ErrorPriorityIsBusThenBusyThenLockThenIllegal : Prop :=
  ∀ s : State, s.engine.status.err = false →
    (∀ (m : Nat) (t : Txn), s.rstN = true →
      (t.be ≠ 0xF#4 → hostStep m t s = .next (({ s with issuer := m } : State).afterBusError .partialAccess)) ∧
      (t.be = 0xF#4 → t.addr.extractLsb' 0 2 ≠ 0#2 →
        hostStep m t s = .next (({ s with issuer := m } : State).afterBusError .misaligned)) ∧
      (t.be = 0xF#4 → t.addr ∈ reservedOffsets →
        hostStep m t s = .next (({ s with issuer := m } : State).afterBusError .unmapped)) ∧
      (t.be = 0xF#4 → t.we = true → t.addr = 0x00#6 →
        hostStep m t s = .next (({ s with issuer := m } : State).afterBusError .readOnly))) ∧
    (s.engine.status.busy = true → ∀ (d : Word) (r : Reg), r ∈ busyRegs →
      ∀ i, decodeTxn (wr r d) = .ok i →
        ∃ u, exec i s = .next u ∧ u.engine.status.err = true ∧ u.engine.status.errCode = 2#4 ∧
          u.resp = some { rdata := 0#32, err := false } ∧ u.hostFaults = s.hostFaults) ∧
    (s.engine.status.busy = false → s.engine.cfg.keyLock = true → ∀ (d : Word) (r : Reg), r ∈ keyRegs →
      ∀ i, decodeTxn (wr r d) = .ok i →
        ∃ u, exec i s = .next u ∧ u.engine.status.err = true ∧ u.engine.status.errCode = 3#4 ∧
          u.resp = some { rdata := 0#32, err := false } ∧ u.hostFaults = s.hostFaults) ∧
    (s.engine.status.busy = false → ∀ c : Word, legalCmdWord c = false →
      ∃ u, exec (.wrCmd c) s = .next u ∧ u.engine.status.err = true ∧ u.engine.status.errCode = 1#4 ∧
        u.resp = some { rdata := 0#32, err := false } ∧ u.hostFaults = s.hostFaults)

/-- R207: errors and completions do not mask each other. -/
def Obligations.DoneAndErrAreIndependent : Prop :=
  ∀ (e : Engine) (p : ProtocolError),
    e.completionStep.status.done = true ∧ e.completionStep.status.err = e.status.err ∧
    e.completionStep.status.errCode = e.status.errCode ∧
    (e.flagError p).status.done = e.status.done ∧ (e.flagError p).status.err = true ∧
    (e.status.err = true → e.flagError p = e) ∧
    ∃ e' : Engine, e'.status.done = true ∧ e'.status.err = true ∧ e'.StatusInv

/-- R208: `irq` and its two sources, how each is cleared or masked, and `irq` after reset. -/
def Obligations.IrqFollowsItsTwoSources : Prop :=
  State.reset.engine.irq = false ∧
    ∀ e : Engine,
      (e.irq = true ↔
        (e.cfg.doneIe = true ∧ e.status.done = true) ∨ (e.cfg.errIe = true ∧ e.status.err = true)) ∧
      (e.setStatus (e.status.write 0x00000002#32)).irq = (e.cfg.errIe && e.status.err) ∧
      (e.setStatus (e.status.write 0x00000004#32)).irq = (e.cfg.doneIe && e.status.done) ∧
      (e.setCfg (e.cfg.write 0x00000000#32)).irq = false ∧
      ∀ op : Op, (e.accept op).irq = (e.cfg.errIe && e.status.err)

/-- R101: F in exact arithmetic, and its corner values. -/
def Obligations.MixingFunctionValues : Prop :=
  (∀ x : Word, (mixF x).toNat = (((x.toNat * 16) % 2 ^ 32 ^^^ x.toNat / 32) + x.toNat) % 2 ^ 32) ∧
    mixF 0x00000000#32 = 0x00000000#32 ∧ mixF 0xFFFFFFFF#32 = 0xF800000E#32 ∧
    mixF 0x80000000#32 = 0x84000000#32 ∧ mixF 0x00000001#32 = 0x00000011#32

/-- R102: the key word each sum selects; KA is read with the sum before a round's addition, KB with the sum after it. -/
def Obligations.KeyWordSelection : Prop :=
  ∀ (k : Key) (s : Word),
    k.ka s = [k.k0, k.k1, k.k2, k.k3].getD (s.toNat % 4) 0#32 ∧
    k.kb s = [k.k0, k.k1, k.k2, k.k3].getD (s.toNat / 2 ^ 11 % 4) 0#32 ∧
    k.kb 0x9E3779B9#32 = k.k3 ∧
    ∀ v0 v1 : Word,
      (encRound k ⟨v0, v1, s⟩).v0 = v0 + (mixF v1 ^^^ (s + k.ka s)) ∧
      (encRound k ⟨v0, v1, s⟩).v1 =
        v1 + (mixF (encRound k ⟨v0, v1, s⟩).v0 ^^^ ((s + 0x9E3779B9#32) + k.kb (s + 0x9E3779B9#32)))

/-- R103: the three statements of an encipher round as the source's loop body writes them, and the rule's example. -/
def Obligations.EncRoundIsTheLoopBody : Prop :=
  (∀ (k : Key) (v0 v1 s : Word), ∃ v0' s' v1' : Word,
    v0' = v0 + ((((v1 <<< 4) ^^^ (v1 >>> 5)) + v1) ^^^ (s + k.ka s)) ∧
    s' = s + 0x9E3779B9#32 ∧
    v1' = v1 + ((((v0' <<< 4) ^^^ (v0' >>> 5)) + v0') ^^^ (s' + k.kb s')) ∧
    encRound k ⟨v0, v1, s⟩ = ⟨v0', v1', s'⟩) ∧
  encRound ⟨0#32, 0#32, 0#32, 0#32⟩ ⟨0#32, 0#32, 0#32⟩ = ⟨0x00000000#32, 0x9E3779B9#32, 0x9E3779B9#32⟩

/-- R106: the three statements of a decipher round, the inverse law in both directions, and the rule's example. -/
def Obligations.DecRoundInvertsEncRound : Prop :=
  (∀ (k : Key) (v0 v1 s : Word), ∃ v0' s' v1' : Word,
    v1' = v1 - (mixF v0 ^^^ (s + k.kb s)) ∧
    s' = s - 0x9E3779B9#32 ∧
    v0' = v0 - (mixF v1' ^^^ (s' + k.ka s')) ∧
    decRound k ⟨v0, v1, s⟩ = ⟨v0', v1', s'⟩) ∧
  (∀ (k : Key) (r : RoundState), decRound k (encRound k r) = r ∧ encRound k (decRound k r) = r) ∧
  decRound ⟨0#32, 0#32, 0#32, 0#32⟩ ⟨0x00000000#32, 0x9E3779B9#32, 0x9E3779B9#32⟩ = ⟨0#32, 0#32, 0#32⟩

/-- R105: the sum after any number of rounds, the key words the 32 rounds read (KA with the sum that enters the round, KB
with the sum that leaves it), and what round 1 reads. -/
def Obligations.SumAfterRoundsFixesTheKeySchedule : Prop :=
  (∀ (k : Key) (m : Nat) (v0 v1 : Word),
    (encRounds k m ⟨v0, v1, 0#32⟩).sum = BitVec.ofNat 32 m * 0x9E3779B9#32) ∧
  (∀ (k : Key) (v0 v1 : Word), (encRounds k 32 ⟨v0, v1, 0#32⟩).sum = 0xC6EF3720#32) ∧
  (∀ (k : Key) (v0 v1 : Word),
    (List.range 32).map (fun r => k.ka (encRounds k r ⟨v0, v1, 0#32⟩).sum) =
       [k.k0, k.k1, k.k2, k.k3, k.k0, k.k1, k.k2, k.k3, k.k0, k.k1, k.k2, k.k3, k.k0, k.k1, k.k2, k.k3,
        k.k0, k.k1, k.k2, k.k3, k.k0, k.k1, k.k2, k.k3, k.k0, k.k1, k.k2, k.k3, k.k0, k.k1, k.k2, k.k3] ∧
    (List.range 32).map (fun r => k.kb (encRounds k (r + 1) ⟨v0, v1, 0#32⟩).sum) =
       [k.k3, k.k2, k.k1, k.k0, k.k0, k.k3, k.k2, k.k1, k.k0, k.k0, k.k3, k.k2, k.k1, k.k1, k.k0, k.k3,
        k.k2, k.k1, k.k1, k.k0, k.k3, k.k2, k.k1, k.k1, k.k0, k.k3, k.k2, k.k2, k.k1, k.k0, k.k3, k.k2]) ∧
  (∀ (k k' : Key) (v0 v1 : Word), k.k0 = k'.k0 → k.k3 = k'.k3 →
    encRound k ⟨v0, v1, 0#32⟩ = encRound k' ⟨v0, v1, 0#32⟩)

/-- R108: decipher undoes encipher and encipher undoes decipher, for every round count, block and key. -/
def Obligations.DecipherInvertsEncipher : Prop :=
  ∀ (n : Word) (v : Block) (k : Key),
    decipher n (encipher n v k) k = v ∧ encipher n (decipher n v k) k = v

/-- R104's corners and example, and R107's: no rounds is the identity; the source's vector; DEC's starting sums, and that
after its `n` rounds the sum is 0 again. -/
def Obligations.EncipherKnownValues : Prop :=
  (∀ (v : Block) (k : Key), encipher 0#32 v k = v ∧ decipher 0#32 v k = v) ∧
    encipher 32#32 ⟨0#32, 0#32⟩ ⟨0#32, 0#32, 0#32, 0#32⟩ = ⟨0xDEE9D4D8#32, 0xF7131ED9#32⟩ ∧
    decipher 32#32 ⟨0xDEE9D4D8#32, 0xF7131ED9#32⟩ ⟨0#32, 0#32, 0#32, 0#32⟩ = ⟨0#32, 0#32⟩ ∧
    startSum .dec 32#32 = 0xC6EF3720#32 ∧ startSum .dec 0xFFFFFFFF#32 = 0x61C88647#32 ∧
    ∀ (k : Key) (n v0 v1 : Word), (decRounds k n.toNat ⟨v0, v1, startSum .dec n⟩).sum = 0#32

/-- R111: with no round the output never depends on the key; with one, never on `key[1]` or `key[2]`. -/
def Obligations.FewRoundsIgnoreKeyWords : Prop :=
  ∀ (v : Block) (k k' : Key),
    encipher 0#32 v k = encipher 0#32 v k' ∧
    (k.k0 = k'.k0 → k.k3 = k'.k3 → encipher 1#32 v k = encipher 1#32 v k')

/-- R231: the reset state. -/
def Obligations.ResetStateIsAsStated : Prop :=
  State.reset.engine =
    { status := { busy := false, done := false, err := false, errCode := 0#4 }
      cfg := { doneIe := false, errIe := false, keyLock := false }
      rounds := 0x00000020#32
      key := { k0 := 0#32, k1 := 0#32, k2 := 0#32, k3 := 0#32 }
      data0 := 0#32, data1 := 0#32, w0 := 0#32, w1 := 0#32, sum := 0#32, cnt := 0#32, n := 0#32, op := .enc } ∧
  exec .rdId State.reset = .next (State.reset.afterRead 0x58544541#32) ∧
  exec .rdStatus State.reset = .next (State.reset.afterRead 0x00000000#32) ∧
  exec .rdCfg State.reset = .next (State.reset.afterRead 0x00000000#32) ∧
  exec .rdRounds State.reset = .next (State.reset.afterRead 0x00000020#32) ∧
  State.reset.engine.irq = false

/-- R232 (and R230's edge): a reset takes the reset state whatever the engine was doing: an operation in flight is aborted,
DONE is 0 and DATA has its reset values, and a completion that would have come next does not happen; and the release of
`rst_n` (R236 step 1) leaves the engine as it is. That the agents' moves are an agenda, that an empty one is a clock edge,
that no bus response is held, that `rst_n` is a level and that the record of host faults stays are the model's choices
(logs 3, 4, 5, 6, 19). -/
def Obligations.ResetAbortsTheOperation : Prop :=
  (∀ s : State, s.resetsNext →
    ∃ t : State, step s = .next t ∧ t.engine = State.reset.engine ∧ t.engine.status.busy = false ∧
      t.engine.status.done = false ∧ t.engine.data0 = 0#32 ∧ t.engine.data1 = 0#32 ∧
      t.engine.w0 = 0#32 ∧ t.engine.w1 = 0#32 ∧ t.engine.sum = 0#32 ∧ t.engine.cnt = 0#32 ∧
      t.rstN = false ∧ t.hostFaults = s.hostFaults ∧ t.agenda = s.agenda.tail ∧
      t.resp = none) ∧
  ∀ (s : State) (rest : List Event), s.agenda = .resetHigh :: rest →
    step s = .next { s with rstN := true, resp := none, agenda := rest }

/-- R233: a transaction issued while `rst_n` = 0 is refused, whatever it is and whoever issues it. -/
def Obligations.TransactionInResetIsRefused : Prop :=
  ∀ (s : State) (m : Nat) (t : Txn), s.rstN = false →
    hostStep m t s = .refused .transactionInReset ∧
    ∀ rest : List Event, s.agenda = .txn m t :: rest → step s = .refused .transactionInReset

/-- The engine never stops: out of reset every step answers a next state, and so does every instruction (a bus error
is a next state, log 1). -/
def Obligations.EveryStepAnswersOutOfReset : Prop :=
  (∀ (i : Instr) (s : State), ∃ t, exec i s = .next t) ∧ ∀ s : State, s.rstN = true → ∃ t, step s = .next t

/-- The invariant holds at reset. -/
def Obligations.ResetHasTheInvariant : Prop := State.reset.Inv

/-- R40 items 1 to 4, and that the running values are `cnt` rounds of the operation on the block in DATA: every step
keeps them, from every state that has them (a step is a move of the model's interleaving, log 3). -/
def Obligations.EveryStepKeepsTheInvariant : Prop :=
  ∀ s t : State, s.Inv → step s = .next t → t.Inv

/-- R136 over every schedule: from the acceptance of an operation, whatever transactions and engine steps are interleaved
(no reset among them; the schedule is the agenda, log 3), the first state that is no longer busy holds the transform of the
values at acceptance. -/
def Obligations.ResultUnderEveryInterleaving : Prop :=
  ∀ (op : Op) (s t : State) (j : Nat), s.acceptsNext op → Event.resetLow ∉ s.agenda →
    (∀ i < j, ∃ u, core.run (i + 1) s = .next u ∧ u.engine.status.busy = true) →
    core.run (j + 1) s = .next t → t.engine.status.busy = false →
      t.engine.block = transformOf op s.engine.rounds s.engine.block s.engine.key ∧ t.engine.status.done = true

/-- R137's progress, with nothing interleaved: after acceptance, `n` steps leave the operation in flight with DATA
unchanged and the next one completes it, with its result and everything else as it was. With an empty agenda the engine moves:
the model's choice (log 4). -/
def Obligations.OperationCompletesAfterItsRounds : Prop :=
  ∀ (op : Op) (s : State), s.rstN = true → s.agenda = [] → s.engine.status.busy = false →
    ∃ s1 t : State, exec (match op with | .enc => .enc | .dec => .dec) s = .next s1 ∧
      (∀ i ≤ s.engine.rounds.toNat, ∃ u, core.run i s1 = .next u ∧ u.engine.status.busy = true ∧
        u.engine.status.done = false ∧ u.engine.block = s.engine.block) ∧
      core.run (s.engine.rounds.toNat + 1) s1 = .next t ∧
      t.engine.block = transformOf op s.engine.rounds s.engine.block s.engine.key ∧
      t.engine.status = { s.engine.status with busy := false, done := true } ∧
      t.engine.cfg = s.engine.cfg ∧ t.engine.rounds = s.engine.rounds ∧ t.engine.key = s.engine.key

/-- R140: a DEC straight after an ENC, with the same KEY and ROUNDS, restores the block; a second ENC enciphers the
ciphertext. With an empty agenda the engine moves: the model's choice (log 4). -/
def Obligations.DecAfterEncRestoresTheBlock : Prop :=
  ∀ s : State, s.rstN = true → s.agenda = [] → s.engine.status.busy = false →
    ∃ s1 s2 s3 s4 s5 s6 : State,
      exec .enc s = .next s1 ∧ core.run (s.engine.rounds.toNat + 1) s1 = .next s2 ∧
      exec .dec s2 = .next s3 ∧ core.run (s.engine.rounds.toNat + 1) s3 = .next s4 ∧
      s4.engine.block = s.engine.block ∧ s4.engine.status.done = true ∧
      exec .enc s2 = .next s5 ∧ core.run (s.engine.rounds.toNat + 1) s5 = .next s6 ∧
      s6.engine.block =
        encipher s.engine.rounds (encipher s.engine.rounds s.engine.block s.engine.key) s.engine.key

/-- R39: while busy the operands are stable; DATA changes only at the completion step. Over every step of the
model's interleaving (logs 3, 4). -/
def Obligations.OperandsAreStableInFlight : Prop :=
  ∀ s t : State, step s = .next t → s.engine.status.busy = true → ¬s.resetsNext →
    t.engine.key = s.engine.key ∧ t.engine.rounds = s.engine.rounds ∧ t.engine.n = s.engine.n ∧
    t.engine.op = s.engine.op ∧
    (t.engine.status.busy = true → t.engine.data0 = s.engine.data0 ∧ t.engine.data1 = s.engine.data1) ∧
    (t.engine.status.busy = false → s.completesNext ∧ t.engine.data0 = s.engine.w0 ∧ t.engine.data1 = s.engine.w1)

/-- R138: a refused write while busy only records code 2; STATUS and CFG writes are taken, as when
idle, and leave the operation alone; KEY_LOCK set while busy holds for a key write after the completion. -/
def Obligations.WritesWhileBusyLeaveTheOperationAlone : Prop :=
  ∀ (s : State) (d : Word), s.engine.status.busy = true →
    (∀ i ∈ [Instr.wrCmd d, Instr.wrRounds d, Instr.wrKey0 d, Instr.wrKey1 d, Instr.wrKey2 d, Instr.wrKey3 d,
        Instr.wrData0 d, Instr.wrData1 d, Instr.nop, Instr.enc, Instr.dec, Instr.illegalCmd d],
      exec i s = .next (s.afterWrite (s.engine.recorded 2#4))) ∧
    exec (.wrStatus d) s = .next (s.afterWrite { s.engine with status := {
      busy := true
      done := s.engine.status.done && !d.getLsbD 1
      err := s.engine.status.err && !d.getLsbD 2
      errCode := if d.getLsbD 2 = true then 0#4 else s.engine.status.errCode } }) ∧
    exec (.wrCfg d) s = .next (s.afterWrite { s.engine with cfg := {
      doneIe := d.getLsbD 0
      errIe := d.getLsbD 1
      keyLock := s.engine.cfg.keyLock || d.getLsbD 2 } }) ∧
    (s.engine.status.done = false → exec (.wrStatus 0x00000002#32) s = .next (s.afterWrite s.engine)) ∧
    (d.getLsbD 2 = true → ∃ u : State, exec (.wrCfg d) s = .next u ∧ u.engine.cfg.keyLock = true ∧
      ∀ w : Word, ∀ i ∈ [Instr.wrKey0 w, Instr.wrKey1 w, Instr.wrKey2 w, Instr.wrKey3 w],
        exec i { u with engine := u.engine.completionStep } =
          .next (State.afterWrite { u with engine := u.engine.completionStep } (u.engine.completionStep.recorded 3#4)))

/-- R29: BUSY is set by the acceptance of an ENC or DEC command, cleared by the completion step or reset, and written by
nothing else. Over every step of the model's interleaving (logs 3, 4). -/
def Obligations.BusyChangesOnlyByAcceptanceAndCompletion : Prop :=
  (∀ s t : State, step s = .next t →
    (s.engine.status.busy = false → t.engine.status.busy = true → ∃ op, s.acceptsNext op) ∧
    (s.engine.status.busy = true → t.engine.status.busy = false → s.completesNext ∨ s.resetsNext)) ∧
  (∀ (s : State) (op : Op), s.acceptsNext op → ∃ t, step s = .next t ∧ t.engine.status.busy = true) ∧
  (∀ s : State, s.completesNext ∨ s.resetsNext → ∃ t, step s = .next t ∧ t.engine.status.busy = false)

/-- R30: DONE is set by the completion step and cleared by exactly three events. Over every step of the model's
interleaving (logs 3, 4). -/
def Obligations.DoneChangesOnlyByItsEvents : Prop :=
  (∀ s t : State, step s = .next t →
    (s.engine.status.done = false → t.engine.status.done = true → s.completesNext) ∧
    (s.engine.status.done = true → t.engine.status.done = false →
      (∃ op, s.acceptsNext op) ∨ (∃ d : Word, s.presents (wr .status d) ∧ d.getLsbD 1 = true) ∨ s.resetsNext)) ∧
  (∀ s : State, s.completesNext → ∃ t, step s = .next t ∧ t.engine.status.done = true) ∧
  (∀ s : State, ((∃ op, s.acceptsNext op) ∨ (∃ d : Word, s.presents (wr .status d) ∧ d.getLsbD 1 = true) ∨ s.resetsNext) →
    ∃ t, step s = .next t ∧ t.engine.status.done = false)

/-- R40 item 6: KEY_LOCK never goes from 1 to 0 except by reset; and while it is 1 no step but reset changes a key.
Over every step of the model's interleaving (log 3). -/
def Obligations.KeyLockHoldsUntilReset : Prop :=
  ∀ s t : State, step s = .next t → s.engine.cfg.keyLock = true → ¬s.resetsNext →
    t.engine.cfg.keyLock = true ∧ t.engine.key = s.engine.key

/-- R34, R40 item 5: no transaction reads the hidden working state, and none writes it but an acceptance. -/
def Obligations.WorkingStateIsHiddenFromTransactions : Prop :=
  ∀ (i : Instr) (s : State) (e : Engine), e.hideWork = s.engine.hideWork →
    ∃ t u : State, exec i s = .next t ∧ exec i { s with engine := e } = .next u ∧
      t.resp = u.resp ∧ t.hostFaults = u.hostFaults ∧ t.engine.hideWork = u.engine.hideWork ∧
      t.engine.irq = u.engine.irq ∧
      (s.engine.status.busy = t.engine.status.busy →
        t.engine.work = s.engine.work ∧ t.engine.cnt = s.engine.cnt ∧ t.engine.n = s.engine.n ∧ t.engine.op = s.engine.op)

/-- R24: what a transaction answers and leaves, the key apart, never depends on the key: it cannot be read back. -/
def Obligations.KeyIsNeverReadBack : Prop :=
  ∀ (i : Instr) (s : State) (e : Engine), e.hideKey = s.engine.hideKey →
    ∃ t u : State, exec i s = .next t ∧ exec i { s with engine := e } = .next u ∧
      t.resp = u.resp ∧ t.hostFaults = u.hostFaults ∧ t.engine.hideKey = u.engine.hideKey ∧
      t.engine.irq = u.engine.irq

/-- R213: the outcome of a transaction does not depend on who issued it, but for whose fault a bus error is. -/
def Obligations.OutcomeDoesNotDependOnTheIssuer : Prop :=
  ∀ (i : Instr) (s : State) (m : Nat), ∃ t u : State,
    exec i s = .next t ∧ exec i { s with issuer := m } = .next u ∧
      u.engine = t.engine ∧ u.resp = t.resp ∧ u.hostFaults.map (·.cause) = t.hostFaults.map (·.cause)

/-- R67: which transactions are idempotent, and that a second ENC is refused while the first runs. -/
def Obligations.IdempotentTransactions : Prop :=
  ∀ (d : Word) (s : State),
    (∀ i ∈ [Instr.wrData0 d, Instr.wrData1 d, Instr.wrKey0 d, Instr.wrKey1 d, Instr.wrKey2 d, Instr.wrKey3 d,
        Instr.wrRounds d, Instr.wrCfg d, Instr.wrStatus d, Instr.rdId, Instr.rdCmd, Instr.rdStatus, Instr.rdCfg,
        Instr.rdRounds, Instr.rdKey0, Instr.rdKey1, Instr.rdKey2, Instr.rdKey3, Instr.rdData0, Instr.rdData1],
      ∃ t, exec i s = .next t ∧ exec i t = .next t) ∧
    (s.engine.status.busy = false → ∃ t, exec .enc s = .next t ∧
      exec .enc t = .next (t.afterWrite (t.engine.recorded 2#4)))

/-- R206: a transaction in the completion cycle is judged against the state before the completion, which then takes
effect, whatever the transaction is; and what a write to DATA*n* and a read of DATA*n* or STATUS then do. The interleaving
"transaction, then engine step" is the agenda's (log 3). -/
def Obligations.TransactionBeforeCompletionSeesTheOldState : Prop :=
  ∀ (s : State) (m : Nat) (rest : List Event), s.rstN = true → s.engine.status.busy = true → s.engine.cnt = s.engine.n →
    (∀ x : Txn, s.agenda = .txn m x :: .engine :: rest → ∃ t u : State,
      hostStep m x { s with agenda := .engine :: rest } = .next t ∧ core.run 1 s = .next t ∧
      t.engine.status.busy = true ∧ core.run 2 s = .next u ∧ u.agenda = rest ∧
      u.engine = { t.engine with
        data0 := s.engine.w0, data1 := s.engine.w1
        status := { t.engine.status with busy := false, done := true } }) ∧
    (∀ d : Word, ∀ r ∈ [Reg.data0, Reg.data1], s.agenda = .txn m (wr r d) :: .engine :: rest → ∃ t u,
      core.run 1 s = .next t ∧ t.engine = s.engine.recorded 2#4 ∧ core.run 2 s = .next u ∧
      u.engine = { s.engine.recorded 2#4 with
        data0 := s.engine.w0, data1 := s.engine.w1
        status := { (s.engine.recorded 2#4).status with busy := false, done := true } }) ∧
    (∀ r ∈ [Reg.data0, Reg.data1, Reg.status], s.agenda = .txn m (rd r) :: .engine :: rest → ∃ t u,
      core.run 1 s = .next t ∧ core.run 2 s = .next u ∧ u.engine.status.busy = false ∧ u.engine.status.done = true ∧
      u.engine.data0 = s.engine.w0 ∧ u.engine.data1 = s.engine.w1 ∧
      (r = .data0 → t.resp = some { rdata := s.engine.data0, err := false }) ∧
      (r = .data1 → t.resp = some { rdata := s.engine.data1, err := false }) ∧
      (r = .status → t.resp = some { rdata := s.engine.status.word, err := false }))

/-- R61: the byte order of a block, in both directions. -/
def Obligations.BlockBytesAreBigEndian : Prop :=
  (∀ b : BlockBytes,
    b.toBlock.v0 = (b.b0.setWidth 32 <<< 24 ||| b.b1.setWidth 32 <<< 16 ||| b.b2.setWidth 32 <<< 8 ||| b.b3.setWidth 32) ∧
    b.toBlock.v1 = (b.b4.setWidth 32 <<< 24 ||| b.b5.setWidth 32 <<< 16 ||| b.b6.setWidth 32 <<< 8 ||| b.b7.setWidth 32) ∧
    b.toBlock.toBytes = b) ∧
  (∀ v : Block, v.toBytes.b0 = v.v0.extractLsb' 24 8 ∧ v.toBytes.b3 = v.v0.extractLsb' 0 8 ∧
    v.toBytes.b4 = v.v1.extractLsb' 24 8 ∧ v.toBytes.b7 = v.v1.extractLsb' 0 8 ∧ v.toBytes.toBlock = v)

/-- R10, R68: an address of the window is XTEA_BASE plus the offset; other addresses reach no register; the base is
64-byte aligned. That an address outside makes no transaction is the model's reading (log 8). -/
def Obligations.WindowAddressesAreBasePlusOffset : Prop :=
  64 ∣ Config.xteaBase ∧
  (∀ (a : BitVec 6) (v : Word),
    memRead (Config.xteaBase + a.toNat) = some (.readAt a) ∧ memWrite (Config.xteaBase + a.toNat) v = some (.writeAt a v)) ∧
  ∀ (addr : Nat) (v : Word), (addr < Config.xteaBase ∨ Config.xteaBase + 64 ≤ addr) →
    memRead addr = none ∧ memWrite addr v = none

/-- R92: the expansion of each pseudo-instruction, at the offsets of R21; which exchanges a POLL is: reads that fail its
test, as many as there are (log 18), then one that passes, before the lines after it; the tests of WAITDONE and WAITIDLE
on a STATUS word; and SETKEY, run on an idle and unlocked engine as the agenda (log 3), writes the four key words and
nothing else of the engine. -/
def Obligations.SetKeyAndWaitDoneExpandAsStated : Prop :=
  (cmdNop = [.write 0x04#6 0x00000000#32] ∧ cmdOp .enc = [.write 0x04#6 0x00000001#32] ∧
    cmdOp .dec = [.write 0x04#6 0x00000002#32] ∧ ackDone = [.write 0x08#6 0x00000002#32] ∧
    ackErr = [.write 0x08#6 0x00000004#32] ∧ ackAll = [.write 0x08#6 0x00000006#32] ∧
    waitDone = [.poll 0x08#6 0x00000003#32 0x00000002#32] ∧ waitIdle = [.poll 0x08#6 0x00000001#32 0x00000000#32] ∧
    (∀ k : Key, setKey k = [.write 0x20#6 k.k0, .write 0x24#6 k.k1, .write 0x28#6 k.k2, .write 0x2C#6 k.k3]) ∧
    ∀ (op : Op) (a b : Word) (r0 r1 : HostVar), xOp op a b r0 r1 =
      [.write 0x30#6 a, .write 0x34#6 b] ++ cmdOp op ++ waitDone ++ [.read r0 0x30#6, .read r1 0x34#6]) ∧
  (∀ (a : BitVec 6) (mask val : Word) (p : List HostInstr) (es : List Exchange) (bs : Bindings),
    hostRun (.poll a mask val :: p) es = some bs ↔
      ∃ (fs : List Exchange) (e : Exchange) (rest : List Exchange), es = fs ++ e :: rest ∧
        (∀ f ∈ fs, f.txn = .readAt a ∧ f.resp.err = false ∧ f.resp.rdata &&& mask ≠ val) ∧
        e.txn = .readAt a ∧ e.resp.err = false ∧ e.resp.rdata &&& mask = val ∧ hostRun p rest = some bs) ∧
  (∀ st : Status, (st.word &&& 0x00000003#32 = 0x00000002#32 ↔ (st.busy = false ∧ st.done = true)) ∧
    (st.word &&& 0x00000001#32 = 0x00000000#32 ↔ st.busy = false)) ∧
  ∀ (s : State) (m : Nat) (k : Key), s.rstN = true → s.agenda = issue m 0 (setKey k) →
    s.engine.status.busy = false → s.engine.cfg.keyLock = false →
      ∃ t, core.run 4 s = .next t ∧ t.engine = { s.engine with key := k } ∧ t.hostFaults = s.hostFaults ∧
        runsProgram m (setKey k) 4 s []
end

