-- ==== Sys2Proof/Laws/Decode.lean ====
section
/-! SUPPORT. Small lemmas of the decoder: the fields of a selector, and full, aligned accesses. -/

namespace Sys2Proof

/-- A full-word read at an offset, decoded: only R82's steps 2, 3 and 5 are left. -/
theorem decodeTxn_readAt (a : BitVec 6) :
    decodeTxn (.readAt a) =
      if a.getLsbD 0 then .ok (.buserrMisalignedAddr0 false a 0#32)
      else if a.getLsbD 1 then .ok (.buserrMisalignedAddr1 false a 0#32)
      else decodeOffset false a 0#32 := by
  simp [decodeTxn, Txn.readAt]

/-- A full-word write at an offset, decoded: only R82's steps 2 to 5 are left. -/
theorem decodeTxn_writeAt (a : BitVec 6) (d : Word) :
    decodeTxn (.writeAt a d) =
      if a.getLsbD 0 then .ok (.buserrMisalignedAddr0 true a d)
      else if a.getLsbD 1 then .ok (.buserrMisalignedAddr1 true a d)
      else decodeOffset true a d := by
  simp [decodeTxn, Txn.writeAt]

/-- The read transaction of a register. -/
def readInstr : Reg → Instr
  | .id => .rdId
  | .cmd => .rdCmd
  | .status => .rdStatus
  | .cfg => .rdCfg
  | .rounds => .rdRounds
  | .key0 => .rdKey0
  | .key1 => .rdKey1
  | .key2 => .rdKey2
  | .key3 => .rdKey3
  | .data0 => .rdData0
  | .data1 => .rdData1

/-- The write transaction of a register. -/
def writeInstr (d : Word) : Reg → Instr
  | .id => .wrId d
  | .cmd => .wrCmd d
  | .status => .wrStatus d
  | .cfg => .wrCfg d
  | .rounds => .wrRounds d
  | .key0 => .wrKey0 d
  | .key1 => .wrKey1 d
  | .key2 => .wrKey2 d
  | .key3 => .wrKey3 d
  | .data0 => .wrData0 d
  | .data1 => .wrData1 d

/-- `RD <reg>` is decoded as the read of that register (R83). -/
theorem decodeTxn_rd (r : Reg) : decodeTxn (.readAt r.offset) = .ok (readInstr r) := by
  cases r <;> simp [decodeTxn_readAt, Reg.offset, decodeOffset, decodeReserved, decodeRead, readInstr]

/-- `WR <reg>, d` is decoded as the write of that register (R82 step 4, R83). -/
theorem decodeTxn_wr (r : Reg) (d : Word) : decodeTxn (.writeAt r.offset d) = .ok (writeInstr d r) := by
  cases r <;> simp [decodeTxn_writeAt, Reg.offset, decodeOffset, decodeReserved, decodeWrite, writeInstr]

/-- A full-word access to a reserved offset is decoded as its row (R82 step 3). -/
theorem decodeTxn_reserved (w : Bool) (a : BitVec 6) (d : Word) (i : Instr) (h0 : a.getLsbD 0 = false)
    (h1 : a.getLsbD 1 = false) (h : decodeReserved w a d = some i) :
    decodeTxn { we := w, addr := a, be := 0xF#4, wdata := d } = .ok i := by
  simp only [BitVec.getLsbD_eq_getElem, Nat.ofNat_pos, Nat.one_lt_ofNat] at h0 h1
  simp [decodeTxn, decodeOffset, h0, h1, h]

/-- A word that is not legal is decoded as ILLEGAL_CMD (R85). -/
theorem decodeCmd_illegal (c : Word) (h : legalCmdWord c = false) : decodeCmd c = .illegalCmd c := by
  simp only [legalCmdWord, Bool.or_eq_false_iff, beq_eq_false_iff_ne, ne_eq] at h
  obtain ⟨⟨h0, h1⟩, h2⟩ := h
  simp [decodeCmd, h0, h1, h2]

/-- A byte-enable field of four ones is `0xF`. -/
theorem be_full (b : BitVec 4) (h0 : b.getLsbD 0 = true) (h1 : b.getLsbD 1 = true) (h2 : b.getLsbD 2 = true)
    (h3 : b.getLsbD 3 = true) : b = 0xF#4 := by
  revert b
  decide

end Sys2Proof
end

