-- ==== Sys2Proof/Laws/State.lean ====
section
/-! SUPPORT. One lemma per field per update of `Engine` and `State`, each true by definition. -/

namespace Sys2Proof.Machine

@[simp] theorem Engine.setStatus_status (e : Engine) (v : Status) : (e.setStatus v).status = v := rfl
@[simp] theorem Engine.setStatus_cfg (e : Engine) (v : Status) : (e.setStatus v).cfg = e.cfg := rfl
@[simp] theorem Engine.setStatus_rounds (e : Engine) (v : Status) : (e.setStatus v).rounds = e.rounds := rfl
@[simp] theorem Engine.setStatus_key (e : Engine) (v : Status) : (e.setStatus v).key = e.key := rfl
@[simp] theorem Engine.setStatus_data0 (e : Engine) (v : Status) : (e.setStatus v).data0 = e.data0 := rfl
@[simp] theorem Engine.setStatus_data1 (e : Engine) (v : Status) : (e.setStatus v).data1 = e.data1 := rfl
@[simp] theorem Engine.setStatus_w0 (e : Engine) (v : Status) : (e.setStatus v).w0 = e.w0 := rfl
@[simp] theorem Engine.setStatus_w1 (e : Engine) (v : Status) : (e.setStatus v).w1 = e.w1 := rfl
@[simp] theorem Engine.setStatus_sum (e : Engine) (v : Status) : (e.setStatus v).sum = e.sum := rfl
@[simp] theorem Engine.setStatus_cnt (e : Engine) (v : Status) : (e.setStatus v).cnt = e.cnt := rfl
@[simp] theorem Engine.setStatus_n (e : Engine) (v : Status) : (e.setStatus v).n = e.n := rfl
@[simp] theorem Engine.setStatus_op (e : Engine) (v : Status) : (e.setStatus v).op = e.op := rfl

@[simp] theorem Engine.setCfg_status (e : Engine) (v : Cfg) : (e.setCfg v).status = e.status := rfl
@[simp] theorem Engine.setCfg_cfg (e : Engine) (v : Cfg) : (e.setCfg v).cfg = v := rfl
@[simp] theorem Engine.setCfg_rounds (e : Engine) (v : Cfg) : (e.setCfg v).rounds = e.rounds := rfl
@[simp] theorem Engine.setCfg_key (e : Engine) (v : Cfg) : (e.setCfg v).key = e.key := rfl
@[simp] theorem Engine.setCfg_data0 (e : Engine) (v : Cfg) : (e.setCfg v).data0 = e.data0 := rfl
@[simp] theorem Engine.setCfg_data1 (e : Engine) (v : Cfg) : (e.setCfg v).data1 = e.data1 := rfl
@[simp] theorem Engine.setCfg_w0 (e : Engine) (v : Cfg) : (e.setCfg v).w0 = e.w0 := rfl
@[simp] theorem Engine.setCfg_w1 (e : Engine) (v : Cfg) : (e.setCfg v).w1 = e.w1 := rfl
@[simp] theorem Engine.setCfg_sum (e : Engine) (v : Cfg) : (e.setCfg v).sum = e.sum := rfl
@[simp] theorem Engine.setCfg_cnt (e : Engine) (v : Cfg) : (e.setCfg v).cnt = e.cnt := rfl
@[simp] theorem Engine.setCfg_n (e : Engine) (v : Cfg) : (e.setCfg v).n = e.n := rfl
@[simp] theorem Engine.setCfg_op (e : Engine) (v : Cfg) : (e.setCfg v).op = e.op := rfl

@[simp] theorem Engine.setRounds_status (e : Engine) (v : Word) : (e.setRounds v).status = e.status := rfl
@[simp] theorem Engine.setRounds_cfg (e : Engine) (v : Word) : (e.setRounds v).cfg = e.cfg := rfl
@[simp] theorem Engine.setRounds_rounds (e : Engine) (v : Word) : (e.setRounds v).rounds = v := rfl
@[simp] theorem Engine.setRounds_key (e : Engine) (v : Word) : (e.setRounds v).key = e.key := rfl
@[simp] theorem Engine.setRounds_data0 (e : Engine) (v : Word) : (e.setRounds v).data0 = e.data0 := rfl
@[simp] theorem Engine.setRounds_data1 (e : Engine) (v : Word) : (e.setRounds v).data1 = e.data1 := rfl
@[simp] theorem Engine.setRounds_w0 (e : Engine) (v : Word) : (e.setRounds v).w0 = e.w0 := rfl
@[simp] theorem Engine.setRounds_w1 (e : Engine) (v : Word) : (e.setRounds v).w1 = e.w1 := rfl
@[simp] theorem Engine.setRounds_sum (e : Engine) (v : Word) : (e.setRounds v).sum = e.sum := rfl
@[simp] theorem Engine.setRounds_cnt (e : Engine) (v : Word) : (e.setRounds v).cnt = e.cnt := rfl
@[simp] theorem Engine.setRounds_n (e : Engine) (v : Word) : (e.setRounds v).n = e.n := rfl
@[simp] theorem Engine.setRounds_op (e : Engine) (v : Word) : (e.setRounds v).op = e.op := rfl

@[simp] theorem Engine.setKey_status (e : Engine) (v : Key) : (e.setKey v).status = e.status := rfl
@[simp] theorem Engine.setKey_cfg (e : Engine) (v : Key) : (e.setKey v).cfg = e.cfg := rfl
@[simp] theorem Engine.setKey_rounds (e : Engine) (v : Key) : (e.setKey v).rounds = e.rounds := rfl
@[simp] theorem Engine.setKey_key (e : Engine) (v : Key) : (e.setKey v).key = v := rfl
@[simp] theorem Engine.setKey_data0 (e : Engine) (v : Key) : (e.setKey v).data0 = e.data0 := rfl
@[simp] theorem Engine.setKey_data1 (e : Engine) (v : Key) : (e.setKey v).data1 = e.data1 := rfl
@[simp] theorem Engine.setKey_w0 (e : Engine) (v : Key) : (e.setKey v).w0 = e.w0 := rfl
@[simp] theorem Engine.setKey_w1 (e : Engine) (v : Key) : (e.setKey v).w1 = e.w1 := rfl
@[simp] theorem Engine.setKey_sum (e : Engine) (v : Key) : (e.setKey v).sum = e.sum := rfl
@[simp] theorem Engine.setKey_cnt (e : Engine) (v : Key) : (e.setKey v).cnt = e.cnt := rfl
@[simp] theorem Engine.setKey_n (e : Engine) (v : Key) : (e.setKey v).n = e.n := rfl
@[simp] theorem Engine.setKey_op (e : Engine) (v : Key) : (e.setKey v).op = e.op := rfl

@[simp] theorem Engine.setData0_status (e : Engine) (v : Word) : (e.setData0 v).status = e.status := rfl
@[simp] theorem Engine.setData0_cfg (e : Engine) (v : Word) : (e.setData0 v).cfg = e.cfg := rfl
@[simp] theorem Engine.setData0_rounds (e : Engine) (v : Word) : (e.setData0 v).rounds = e.rounds := rfl
@[simp] theorem Engine.setData0_key (e : Engine) (v : Word) : (e.setData0 v).key = e.key := rfl
@[simp] theorem Engine.setData0_data0 (e : Engine) (v : Word) : (e.setData0 v).data0 = v := rfl
@[simp] theorem Engine.setData0_data1 (e : Engine) (v : Word) : (e.setData0 v).data1 = e.data1 := rfl
@[simp] theorem Engine.setData0_w0 (e : Engine) (v : Word) : (e.setData0 v).w0 = e.w0 := rfl
@[simp] theorem Engine.setData0_w1 (e : Engine) (v : Word) : (e.setData0 v).w1 = e.w1 := rfl
@[simp] theorem Engine.setData0_sum (e : Engine) (v : Word) : (e.setData0 v).sum = e.sum := rfl
@[simp] theorem Engine.setData0_cnt (e : Engine) (v : Word) : (e.setData0 v).cnt = e.cnt := rfl
@[simp] theorem Engine.setData0_n (e : Engine) (v : Word) : (e.setData0 v).n = e.n := rfl
@[simp] theorem Engine.setData0_op (e : Engine) (v : Word) : (e.setData0 v).op = e.op := rfl

@[simp] theorem Engine.setData1_status (e : Engine) (v : Word) : (e.setData1 v).status = e.status := rfl
@[simp] theorem Engine.setData1_cfg (e : Engine) (v : Word) : (e.setData1 v).cfg = e.cfg := rfl
@[simp] theorem Engine.setData1_rounds (e : Engine) (v : Word) : (e.setData1 v).rounds = e.rounds := rfl
@[simp] theorem Engine.setData1_key (e : Engine) (v : Word) : (e.setData1 v).key = e.key := rfl
@[simp] theorem Engine.setData1_data0 (e : Engine) (v : Word) : (e.setData1 v).data0 = e.data0 := rfl
@[simp] theorem Engine.setData1_data1 (e : Engine) (v : Word) : (e.setData1 v).data1 = v := rfl
@[simp] theorem Engine.setData1_w0 (e : Engine) (v : Word) : (e.setData1 v).w0 = e.w0 := rfl
@[simp] theorem Engine.setData1_w1 (e : Engine) (v : Word) : (e.setData1 v).w1 = e.w1 := rfl
@[simp] theorem Engine.setData1_sum (e : Engine) (v : Word) : (e.setData1 v).sum = e.sum := rfl
@[simp] theorem Engine.setData1_cnt (e : Engine) (v : Word) : (e.setData1 v).cnt = e.cnt := rfl
@[simp] theorem Engine.setData1_n (e : Engine) (v : Word) : (e.setData1 v).n = e.n := rfl
@[simp] theorem Engine.setData1_op (e : Engine) (v : Word) : (e.setData1 v).op = e.op := rfl

@[simp] theorem Engine.setWork_status (e : Engine) (r : RoundState) : (e.setWork r).status = e.status := rfl
@[simp] theorem Engine.setWork_cfg (e : Engine) (r : RoundState) : (e.setWork r).cfg = e.cfg := rfl
@[simp] theorem Engine.setWork_rounds (e : Engine) (r : RoundState) : (e.setWork r).rounds = e.rounds := rfl
@[simp] theorem Engine.setWork_key (e : Engine) (r : RoundState) : (e.setWork r).key = e.key := rfl
@[simp] theorem Engine.setWork_data0 (e : Engine) (r : RoundState) : (e.setWork r).data0 = e.data0 := rfl
@[simp] theorem Engine.setWork_data1 (e : Engine) (r : RoundState) : (e.setWork r).data1 = e.data1 := rfl
@[simp] theorem Engine.setWork_w0 (e : Engine) (r : RoundState) : (e.setWork r).w0 = r.v0 := rfl
@[simp] theorem Engine.setWork_w1 (e : Engine) (r : RoundState) : (e.setWork r).w1 = r.v1 := rfl
@[simp] theorem Engine.setWork_sum (e : Engine) (r : RoundState) : (e.setWork r).sum = r.sum := rfl
@[simp] theorem Engine.setWork_cnt (e : Engine) (r : RoundState) : (e.setWork r).cnt = e.cnt := rfl
@[simp] theorem Engine.setWork_n (e : Engine) (r : RoundState) : (e.setWork r).n = e.n := rfl
@[simp] theorem Engine.setWork_op (e : Engine) (r : RoundState) : (e.setWork r).op = e.op := rfl

@[simp] theorem State.setEngine_engine (s : State) (v : Engine) : (s.setEngine v).engine = v := rfl
@[simp] theorem State.setEngine_resp (s : State) (v : Engine) : (s.setEngine v).resp = s.resp := rfl
@[simp] theorem State.setEngine_rstN (s : State) (v : Engine) : (s.setEngine v).rstN = s.rstN := rfl
@[simp] theorem State.setEngine_agenda (s : State) (v : Engine) : (s.setEngine v).agenda = s.agenda := rfl
@[simp] theorem State.setEngine_issuer (s : State) (v : Engine) : (s.setEngine v).issuer = s.issuer := rfl
@[simp] theorem State.setEngine_hostFaults (s : State) (v : Engine) : (s.setEngine v).hostFaults = s.hostFaults := rfl

@[simp] theorem State.setResp_engine (s : State) (v : Option BusResponse) : (s.setResp v).engine = s.engine := rfl
@[simp] theorem State.setResp_resp (s : State) (v : Option BusResponse) : (s.setResp v).resp = v := rfl
@[simp] theorem State.setResp_rstN (s : State) (v : Option BusResponse) : (s.setResp v).rstN = s.rstN := rfl
@[simp] theorem State.setResp_agenda (s : State) (v : Option BusResponse) : (s.setResp v).agenda = s.agenda := rfl
@[simp] theorem State.setResp_issuer (s : State) (v : Option BusResponse) : (s.setResp v).issuer = s.issuer := rfl
@[simp] theorem State.setResp_hostFaults (s : State) (v : Option BusResponse) : (s.setResp v).hostFaults = s.hostFaults := rfl

@[simp] theorem State.setRstN_engine (s : State) (v : Bool) : (s.setRstN v).engine = s.engine := rfl
@[simp] theorem State.setRstN_resp (s : State) (v : Bool) : (s.setRstN v).resp = s.resp := rfl
@[simp] theorem State.setRstN_rstN (s : State) (v : Bool) : (s.setRstN v).rstN = v := rfl
@[simp] theorem State.setRstN_agenda (s : State) (v : Bool) : (s.setRstN v).agenda = s.agenda := rfl
@[simp] theorem State.setRstN_issuer (s : State) (v : Bool) : (s.setRstN v).issuer = s.issuer := rfl
@[simp] theorem State.setRstN_hostFaults (s : State) (v : Bool) : (s.setRstN v).hostFaults = s.hostFaults := rfl

@[simp] theorem State.setAgenda_engine (s : State) (v : List Event) : (s.setAgenda v).engine = s.engine := rfl
@[simp] theorem State.setAgenda_resp (s : State) (v : List Event) : (s.setAgenda v).resp = s.resp := rfl
@[simp] theorem State.setAgenda_rstN (s : State) (v : List Event) : (s.setAgenda v).rstN = s.rstN := rfl
@[simp] theorem State.setAgenda_agenda (s : State) (v : List Event) : (s.setAgenda v).agenda = v := rfl
@[simp] theorem State.setAgenda_issuer (s : State) (v : List Event) : (s.setAgenda v).issuer = s.issuer := rfl
@[simp] theorem State.setAgenda_hostFaults (s : State) (v : List Event) : (s.setAgenda v).hostFaults = s.hostFaults := rfl

@[simp] theorem State.setIssuer_engine (s : State) (v : Nat) : (s.setIssuer v).engine = s.engine := rfl
@[simp] theorem State.setIssuer_resp (s : State) (v : Nat) : (s.setIssuer v).resp = s.resp := rfl
@[simp] theorem State.setIssuer_rstN (s : State) (v : Nat) : (s.setIssuer v).rstN = s.rstN := rfl
@[simp] theorem State.setIssuer_agenda (s : State) (v : Nat) : (s.setIssuer v).agenda = s.agenda := rfl
@[simp] theorem State.setIssuer_issuer (s : State) (v : Nat) : (s.setIssuer v).issuer = v := rfl
@[simp] theorem State.setIssuer_hostFaults (s : State) (v : Nat) : (s.setIssuer v).hostFaults = s.hostFaults := rfl

@[simp] theorem State.addHostFault_engine (s : State) (v : HostFault) : (s.addHostFault v).engine = s.engine := rfl
@[simp] theorem State.addHostFault_resp (s : State) (v : HostFault) : (s.addHostFault v).resp = s.resp := rfl
@[simp] theorem State.addHostFault_rstN (s : State) (v : HostFault) : (s.addHostFault v).rstN = s.rstN := rfl
@[simp] theorem State.addHostFault_agenda (s : State) (v : HostFault) : (s.addHostFault v).agenda = s.agenda := rfl
@[simp] theorem State.addHostFault_issuer (s : State) (v : HostFault) : (s.addHostFault v).issuer = s.issuer := rfl
@[simp] theorem State.addHostFault_hostFaults (s : State) (v : HostFault) : (s.addHostFault v).hostFaults = v :: s.hostFaults := rfl

end Sys2Proof.Machine
end

