-- ==== Sys2Proof/Laws/Ops.lean ====
section
/-! SUPPORT. What each shared operation does, said once. Every operation of a transaction answers a next state. -/

namespace Sys2Proof.Machine

theorem readReg_next (r : Reg) (s : State) :
    readReg r s = .next { s with resp := some { rdata := s.engine.read r, err := false } } := rfl

theorem acceptWrite_next (e : Engine) (s : State) :
    acceptWrite e s = .next { s with engine := e, resp := some { rdata := 0#32, err := false } } := rfl

theorem refuseWrite_next (p : ProtocolError) (s : State) :
    refuseWrite p s =
      .next { s with engine := s.engine.flagError p, resp := some { rdata := 0#32, err := false } } := rfl

theorem busError_next (c : BusCause) (s : State) :
    busError c s =
      .next { s with
        resp := some { rdata := 0#32, err := true }
        hostFaults := { master := s.issuer, cause := c } :: s.hostFaults } := rfl

theorem acknowledge_next (d : Word) (s : State) :
    acknowledge d s =
      .next { s with
        engine := { s.engine with status := s.engine.status.write d }
        resp := some { rdata := 0#32, err := false } } := rfl

theorem writeWhenIdle_busy (f : Engine → Engine) (s : State) (h : s.engine.status.busy = true) :
    writeWhenIdle f s = refuseWrite .writeWhileBusy s := by
  simp [writeWhenIdle, h]

theorem writeWhenIdle_idle (f : Engine → Engine) (s : State) (h : s.engine.status.busy = false) :
    writeWhenIdle f s = acceptWrite (f s.engine) s := by
  simp [writeWhenIdle, h]

theorem writeKeyWhenUnlocked_busy (f : Key → Key) (s : State) (h : s.engine.status.busy = true) :
    writeKeyWhenUnlocked f s = refuseWrite .writeWhileBusy s := by
  simp [writeKeyWhenUnlocked, h]

theorem writeKeyWhenUnlocked_locked (f : Key → Key) (s : State) (hb : s.engine.status.busy = false)
    (hl : s.engine.cfg.keyLock = true) : writeKeyWhenUnlocked f s = refuseWrite .keyLocked s := by
  simp [writeKeyWhenUnlocked, hb, hl]

theorem writeKeyWhenUnlocked_unlocked (f : Key → Key) (s : State) (hb : s.engine.status.busy = false)
    (hl : s.engine.cfg.keyLock = false) :
    writeKeyWhenUnlocked f s = acceptWrite (s.engine.setKey (f s.engine.key)) s := by
  simp [writeKeyWhenUnlocked, hb, hl]

/-- The first error is kept (R201). -/
theorem Status.flagError_err (p : ProtocolError) (st : Status) (h : st.err = true) : st.flagError p = st := by
  simp [Status.flagError, h]

/-- With ERR clear the code is recorded (R201). -/
theorem Status.flagError_clear (p : ProtocolError) (st : Status) (h : st.err = false) :
    st.flagError p = { st with err := true, errCode := p.code } := by
  simp [Status.flagError, h]

@[simp] theorem Status.flagError_busy (p : ProtocolError) (st : Status) : (st.flagError p).busy = st.busy := by
  unfold Status.flagError; split <;> rfl

@[simp] theorem Status.flagError_done (p : ProtocolError) (st : Status) : (st.flagError p).done = st.done := by
  unfold Status.flagError; split <;> rfl

@[simp] theorem Status.flagError_sets_err (p : ProtocolError) (st : Status) : (st.flagError p).err = true := by
  unfold Status.flagError; split <;> simp_all

@[simp] theorem Status.write_busy (d : Word) (st : Status) : (st.write d).busy = st.busy := rfl

@[simp] theorem Engine.flagError_status (p : ProtocolError) (e : Engine) :
    (e.flagError p).status = e.status.flagError p := rfl

/-- `flag_error` touches STATUS only. -/
theorem Engine.flagError_eq (p : ProtocolError) (e : Engine) :
    e.flagError p = { e with status := e.status.flagError p } := rfl

/-- Refusing a second time records nothing more (R201). -/
theorem Engine.flagError_flagError (p q : ProtocolError) (e : Engine) :
    (e.flagError p).flagError q = e.flagError p := by
  simp [Engine.flagError_eq, Status.flagError_err q _ (Status.flagError_sets_err p e.status)]

end Sys2Proof.Machine
end

