-- ==== Sys2Proof/Laws/Exec.lean ====
section
/-! SUPPORT. What an instruction can do, said once: `exec` always answers a next state, its frame outside the engine, and the cases of the engine's change; and what the decoder sends to each of them. -/

namespace Sys2Proof.Machine

/-- A write whose register the engine protects while it is busy (R239): to CMD, ROUNDS, a key register or DATA. -/
def writesProtected : Instr → Bool
  | .wrCmd _ | .nop | .enc | .dec | .illegalCmd _ | .wrRounds _
  | .wrKey0 _ | .wrKey1 _ | .wrKey2 _ | .wrKey3 _ | .wrData0 _ | .wrData1 _ => true
  | .buserrPartialBe0 _ _ _ _ | .buserrPartialBe1 _ _ _ _ | .buserrPartialBe2 _ _ _ _ | .buserrPartialBe3 _ _ _ _
  | .buserrMisalignedAddr0 _ _ _ | .buserrMisalignedAddr1 _ _ _
  | .buserrUnmapped14 _ _ | .buserrUnmapped18 _ _ | .buserrUnmapped1C _ _ | .buserrUnmapped38 _ _ | .buserrUnmapped3C _ _
  | .wrId _ | .rdId | .rdCmd | .rdStatus | .wrStatus _ | .rdCfg | .wrCfg _ | .rdRounds
  | .rdKey0 | .rdKey1 | .rdKey2 | .rdKey3 | .rdData0 | .rdData1 => false

/-- A write to a key register. -/
def writesKey : Instr → Bool
  | .wrKey0 _ | .wrKey1 _ | .wrKey2 _ | .wrKey3 _ => true
  | .wrCmd _ | .nop | .enc | .dec | .illegalCmd _ | .wrRounds _ | .wrData0 _ | .wrData1 _
  | .buserrPartialBe0 _ _ _ _ | .buserrPartialBe1 _ _ _ _ | .buserrPartialBe2 _ _ _ _ | .buserrPartialBe3 _ _ _ _
  | .buserrMisalignedAddr0 _ _ _ | .buserrMisalignedAddr1 _ _ _
  | .buserrUnmapped14 _ _ | .buserrUnmapped18 _ _ | .buserrUnmapped1C _ _ | .buserrUnmapped38 _ _ | .buserrUnmapped3C _ _
  | .wrId _ | .rdId | .rdCmd | .rdStatus | .wrStatus _ | .rdCfg | .wrCfg _ | .rdRounds
  | .rdKey0 | .rdKey1 | .rdKey2 | .rdKey3 | .rdData0 | .rdData1 => false

/-- The ways an instruction may change the engine. -/
inductive EngineChange : Instr → Engine → Engine → Prop where
  | same (i : Instr) (e : Engine) : EngineChange i e e
  | busy (i : Instr) (e : Engine) (hb : e.status.busy = true) (hi : writesProtected i = true) :
      EngineChange i e (e.flagError .writeWhileBusy)
  | locked (i : Instr) (e : Engine) (hb : e.status.busy = false) (hl : e.cfg.keyLock = true) (hi : writesKey i = true) :
      EngineChange i e (e.flagError .keyLocked)
  | illegalWord (c : Word) (e : Engine) (hb : e.status.busy = false) (hc : legalCmdWord c = false) :
      EngineChange (.wrCmd c) e (e.flagError .illegalCmd)
  | illegalCmd (c : Word) (e : Engine) (hb : e.status.busy = false) :
      EngineChange (.illegalCmd c) e (e.flagError .illegalCmd)
  | status (d : Word) (e : Engine) : EngineChange (.wrStatus d) e (e.setStatus (e.status.write d))
  | cfg (d : Word) (e : Engine) : EngineChange (.wrCfg d) e (e.setCfg (e.cfg.write d))
  | rounds (d : Word) (e : Engine) (hb : e.status.busy = false) : EngineChange (.wrRounds d) e (e.setRounds d)
  | data0 (d : Word) (e : Engine) (hb : e.status.busy = false) : EngineChange (.wrData0 d) e (e.setData0 d)
  | data1 (d : Word) (e : Engine) (hb : e.status.busy = false) : EngineChange (.wrData1 d) e (e.setData1 d)
  | key (i : Instr) (e : Engine) (k : Key) (hb : e.status.busy = false) (hl : e.cfg.keyLock = false)
      (hi : writesKey i = true) : EngineChange i e (e.setKey k)
  | accept (op : Op) (i : Instr) (e : Engine) (hb : e.status.busy = false)
      (hi : i = .wrCmd (match op with | .enc => 1#32 | .dec => 2#32) ∨ i = (match op with | .enc => .enc | .dec => .dec)) :
      EngineChange i e (e.accept op)

/-- The frame of every instruction outside the engine, and that it answered the bus. -/
structure OuterFrame (s t : State) : Prop where
  rstN : t.rstN = s.rstN
  agenda : t.agenda = s.agenda
  issuer : t.issuer = s.issuer
  resp : t.resp.isSome = true

theorem readReg_cases (i : Instr) (r : Reg) (s : State) :
    ∃ t, readReg r s = .next t ∧ OuterFrame s t ∧ EngineChange i s.engine t.engine :=
  ⟨_, rfl, ⟨rfl, rfl, rfl, rfl⟩, .same _ _⟩

theorem busError_cases (i : Instr) (c : BusCause) (s : State) :
    ∃ t, busError c s = .next t ∧ OuterFrame s t ∧ EngineChange i s.engine t.engine :=
  ⟨_, rfl, ⟨rfl, rfl, rfl, rfl⟩, .same _ _⟩

theorem acceptWrite_cases (i : Instr) (e : Engine) (s : State) (h : EngineChange i s.engine e) :
    ∃ t, acceptWrite e s = .next t ∧ OuterFrame s t ∧ EngineChange i s.engine t.engine :=
  ⟨_, rfl, ⟨rfl, rfl, rfl, rfl⟩, h⟩

theorem writeWhenIdle_cases (i : Instr) (f : Engine → Engine) (s : State) (hi : writesProtected i = true)
    (h : s.engine.status.busy = false → EngineChange i s.engine (f s.engine)) :
    ∃ t, writeWhenIdle f s = .next t ∧ OuterFrame s t ∧ EngineChange i s.engine t.engine := by
  cases hb : s.engine.status.busy
  · rw [writeWhenIdle_idle f s hb]; exact acceptWrite_cases i _ s (h hb)
  · rw [writeWhenIdle_busy f s hb]; exact acceptWrite_cases i _ s (.busy i _ hb hi)

theorem writeKey_cases (i : Instr) (f : Key → Key) (s : State) (hi : writesKey i = true) (hp : writesProtected i = true) :
    ∃ t, writeKeyWhenUnlocked f s = .next t ∧ OuterFrame s t ∧ EngineChange i s.engine t.engine := by
  cases hb : s.engine.status.busy
  · cases hl : s.engine.cfg.keyLock
    · rw [writeKeyWhenUnlocked_unlocked f s hb hl]; exact acceptWrite_cases i _ s (.key i _ _ hb hl hi)
    · rw [writeKeyWhenUnlocked_locked f s hb hl]; exact acceptWrite_cases i _ s (.locked i _ hb hl hi)
  · rw [writeKeyWhenUnlocked_busy f s hb]; exact acceptWrite_cases i _ s (.busy i _ hb hp)

/-- R130's test of a command word says what `legalCmdWord` says (R84, R85). -/
theorem illegal_iff (c : Word) :
    (c.extractLsb' 4 28 ≠ 0#28 ∨
        ¬(c.extractLsb' 0 4 = 0#4 ∨ c.extractLsb' 0 4 = 1#4 ∨ c.extractLsb' 0 4 = 2#4)) ↔
      legalCmdWord c = false := by
  simp only [legalCmdWord, Bool.or_eq_false_iff, beq_eq_false_iff_ne, ne_eq, BitVec.toNat_inj.symm,
    BitVec.extractLsb'_toNat, BitVec.toNat_ofNat, Nat.shiftRight_eq_div_pow]
  have := c.isLt
  omega

theorem execWrCmd_cases (c : Word) (s : State) :
    ∃ t, execWrCmd c s = .next t ∧ OuterFrame s t ∧ EngineChange (.wrCmd c) s.engine t.engine := by
  unfold execWrCmd
  split
  · rename_i hb; exact acceptWrite_cases _ _ s (.busy _ _ hb rfl)
  · rename_i hb
    have hb : s.engine.status.busy = false := by simpa using hb
    split
    · rename_i hc; exact acceptWrite_cases _ _ s (.illegalWord c _ hb ((illegal_iff c).1 hc))
    · rename_i hc
      have hl : legalCmdWord c = true := by simpa using mt (illegal_iff c).2 hc
      split
      · exact writeWhenIdle_cases _ _ s rfl fun _ => .same _ _
      · split
        · rename_i h1; exact writeWhenIdle_cases _ _ s rfl fun h => .accept .enc _ _ h (.inl (by rw [h1]))
        · rename_i h0 h1
          have h2 : c = 2#32 := by simp_all [legalCmdWord]
          exact writeWhenIdle_cases _ _ s rfl fun h => .accept .dec _ _ h (.inl (by rw [h2]))

/-- Every instruction answers a next state, keeps the model's own fields but the record of a bus error, and changes the
engine in one of the ways of `EngineChange`. -/
theorem exec_cases (i : Instr) (s : State) :
    ∃ t, exec i s = .next t ∧ OuterFrame s t ∧ EngineChange i s.engine t.engine := by
  cases i with
  | buserrPartialBe0 w a b d => exact busError_cases _ _ s
  | buserrPartialBe1 w a b d => exact busError_cases _ _ s
  | buserrPartialBe2 w a b d => exact busError_cases _ _ s
  | buserrPartialBe3 w a b d => exact busError_cases _ _ s
  | buserrMisalignedAddr0 w a d => exact busError_cases _ _ s
  | buserrMisalignedAddr1 w a d => exact busError_cases _ _ s
  | buserrUnmapped14 w d => exact busError_cases _ _ s
  | buserrUnmapped18 w d => exact busError_cases _ _ s
  | buserrUnmapped1C w d => exact busError_cases _ _ s
  | buserrUnmapped38 w d => exact busError_cases _ _ s
  | buserrUnmapped3C w d => exact busError_cases _ _ s
  | wrId d => exact busError_cases _ _ s
  | rdId => exact readReg_cases _ _ s
  | rdCmd => exact readReg_cases _ _ s
  | wrCmd c => exact execWrCmd_cases c s
  | rdStatus => exact readReg_cases _ _ s
  | wrStatus d => exact acceptWrite_cases _ _ s (.status d _)
  | rdCfg => exact readReg_cases _ _ s
  | wrCfg d => exact acceptWrite_cases _ _ s (.cfg d _)
  | rdRounds => exact readReg_cases _ _ s
  | wrRounds d => exact writeWhenIdle_cases (.wrRounds d) (fun e => e.setRounds d) s rfl fun h => .rounds d _ h
  | rdKey0 => exact readReg_cases _ _ s
  | wrKey0 d => exact writeKey_cases (.wrKey0 d) (fun k => { k with k0 := d }) s rfl rfl
  | rdKey1 => exact readReg_cases _ _ s
  | wrKey1 d => exact writeKey_cases (.wrKey1 d) (fun k => { k with k1 := d }) s rfl rfl
  | rdKey2 => exact readReg_cases _ _ s
  | wrKey2 d => exact writeKey_cases (.wrKey2 d) (fun k => { k with k2 := d }) s rfl rfl
  | rdKey3 => exact readReg_cases _ _ s
  | wrKey3 d => exact writeKey_cases (.wrKey3 d) (fun k => { k with k3 := d }) s rfl rfl
  | rdData0 => exact readReg_cases _ _ s
  | wrData0 d => exact writeWhenIdle_cases (.wrData0 d) (fun e => e.setData0 d) s rfl fun h => .data0 d _ h
  | rdData1 => exact readReg_cases _ _ s
  | wrData1 d => exact writeWhenIdle_cases (.wrData1 d) (fun e => e.setData1 d) s rfl fun h => .data1 d _ h
  | nop => exact writeWhenIdle_cases .nop (fun e => e) s rfl fun _ => .same _ _
  | enc => exact writeWhenIdle_cases .enc _ s rfl fun h => .accept .enc _ _ h (.inr rfl)
  | dec => exact writeWhenIdle_cases .dec _ s rfl fun h => .accept .dec _ _ h (.inr rfl)
  | illegalCmd c => exact writeWhenIdle_cases (.illegalCmd c) _ s rfl fun h => .illegalCmd c _ h

end Sys2Proof.Machine
end

