-- ==== Sys2Proof/Laws/HostNotation.lean ====
section
/-! SUPPORT. The equations of `hostRun` and of `exchanges`, one per case. -/

namespace Sys2Proof.Machine

@[simp] theorem hostRun_nil_nil : hostRun [] [] = some [] := by simp [hostRun]

@[simp] theorem hostRun_nil_cons (e : Exchange) (es : List Exchange) : hostRun [] (e :: es) = none := by simp [hostRun]

/-- A line that no exchange is left for has not run. -/
@[simp] theorem hostRun_cons_nil (i : HostInstr) (p : List HostInstr) : hostRun (i :: p) [] = none := by simp [hostRun]

theorem hostRun_write (a : BitVec 6) (d : Word) (p : List HostInstr) (e : Exchange) (es : List Exchange) :
    hostRun (.write a d :: p) (e :: es) = if e.txn = .writeAt a d then hostRun p es else none := by simp [hostRun]

theorem hostRun_read (x : HostVar) (a : BitVec 6) (p : List HostInstr) (e : Exchange) (es : List Exchange) :
    hostRun (.read x a :: p) (e :: es) = if e.txn = .readAt a then (hostRun p es).map (e.bind x) else none := by
  simp [hostRun]

/-- A read of a POLL that passes ends it (R92). -/
theorem hostRun_poll_passes (a : BitVec 6) (mask val : Word) (p : List HostInstr) (e : Exchange) (es : List Exchange)
    (ht : e.txn = .readAt a) (hr : e.resp.err = false) (hp : pollPasses mask val e.resp.rdata = true) :
    hostRun (.poll a mask val :: p) (e :: es) = hostRun p es := by simp [hostRun, ht, hr, hp]

/-- A read of a POLL that fails repeats it (R92). -/
theorem hostRun_poll_fails (a : BitVec 6) (mask val : Word) (p : List HostInstr) (e : Exchange) (es : List Exchange)
    (ht : e.txn = .readAt a) (hr : e.resp.err = false) (hp : pollPasses mask val e.resp.rdata = false) :
    hostRun (.poll a mask val :: p) (e :: es) = hostRun (.poll a mask val :: p) es := by simp [hostRun, ht, hr, hp]

/-- Any other exchange is none of a POLL's. -/
theorem hostRun_poll_other (a : BitVec 6) (mask val : Word) (p : List HostInstr) (e : Exchange) (es : List Exchange)
    (h : ¬(e.txn = .readAt a ∧ e.resp.err = false)) : hostRun (.poll a mask val :: p) (e :: es) = none := by
  simp [hostRun, h]

theorem exchanges_zero (m : Nat) (s : State) : exchanges m 0 s = [] := rfl

/-- The exchanges after the first step. -/
theorem exchanges_succ (m k : Nat) (s t : State) (h : step s = .next t) :
    exchanges m (k + 1) s = exchangeOf m s t ++ exchanges m k t := by simp [exchanges, h]

/-- A step that took agent `m`'s transaction is one exchange. -/
theorem exchangeOf_txn (m : Nat) (s t : State) (x : Txn) (rest : List Event) (r : BusResponse)
    (ha : s.agenda = .txn m x :: rest) (hr : t.resp = some r) : exchangeOf m s t = [{ txn := x, resp := r }] := by
  simp [exchangeOf, ha, hr]

end Sys2Proof.Machine
end

