-- ==== Sys2Proof/Laws/PerInstr.lean ====
section
/-! SUPPORT. The family RoundTrip: for each constructor, what the decoder reads from the encoder's bits. -/

namespace Sys2Proof.Laws.RoundTrip

/-- A well-formed instruction's encoding is decoded as that instruction. -/
def Statement (i : Instr) : Prop := i.wellFormed = true → decode (encode i) = .ok i

theorem buserrPartialBe0 (w : Bool) (a : BitVec 6) (b : BitVec 4) (d : Word) : Statement (.buserrPartialBe0 w a b d) := by
  intro h
  simp_all [Instr.wellFormed, decode, encode, decodeTxn]

theorem buserrPartialBe1 (w : Bool) (a : BitVec 6) (b : BitVec 4) (d : Word) : Statement (.buserrPartialBe1 w a b d) := by
  intro h
  simp_all [Instr.wellFormed, decode, encode, decodeTxn]

theorem buserrPartialBe2 (w : Bool) (a : BitVec 6) (b : BitVec 4) (d : Word) : Statement (.buserrPartialBe2 w a b d) := by
  intro h
  simp_all [Instr.wellFormed, decode, encode, decodeTxn]

theorem buserrPartialBe3 (w : Bool) (a : BitVec 6) (b : BitVec 4) (d : Word) : Statement (.buserrPartialBe3 w a b d) := by
  intro h
  simp_all [Instr.wellFormed, decode, encode, decodeTxn]

theorem buserrMisalignedAddr0 (w : Bool) (a : BitVec 6) (d : Word) : Statement (.buserrMisalignedAddr0 w a d) := by
  intro h
  simp_all [Instr.wellFormed, decode, encode, decodeTxn]

theorem buserrMisalignedAddr1 (w : Bool) (a : BitVec 6) (d : Word) : Statement (.buserrMisalignedAddr1 w a d) := by
  intro h
  simp_all [Instr.wellFormed, decode, encode, decodeTxn]

theorem buserrUnmapped14 (w : Bool) (d : Word) : Statement (.buserrUnmapped14 w d) :=
  fun _ => decodeTxn_reserved w 0x14#6 d _ rfl rfl rfl

theorem buserrUnmapped18 (w : Bool) (d : Word) : Statement (.buserrUnmapped18 w d) :=
  fun _ => decodeTxn_reserved w 0x18#6 d _ rfl rfl rfl

theorem buserrUnmapped1C (w : Bool) (d : Word) : Statement (.buserrUnmapped1C w d) :=
  fun _ => decodeTxn_reserved w 0x1C#6 d _ rfl rfl rfl

theorem buserrUnmapped38 (w : Bool) (d : Word) : Statement (.buserrUnmapped38 w d) :=
  fun _ => decodeTxn_reserved w 0x38#6 d _ rfl rfl rfl

theorem buserrUnmapped3C (w : Bool) (d : Word) : Statement (.buserrUnmapped3C w d) :=
  fun _ => decodeTxn_reserved w 0x3C#6 d _ rfl rfl rfl

theorem wrId (d : Word) : Statement (.wrId d) := fun _ => decodeTxn_wr .id d

theorem rdId : Statement .rdId := fun _ => decodeTxn_rd .id

theorem rdCmd : Statement .rdCmd := fun _ => decodeTxn_rd .cmd

theorem wrCmd (d : Word) : Statement (.wrCmd d) := fun _ => decodeTxn_wr .cmd d

theorem rdStatus : Statement .rdStatus := fun _ => decodeTxn_rd .status

theorem wrStatus (d : Word) : Statement (.wrStatus d) := fun _ => decodeTxn_wr .status d

theorem rdCfg : Statement .rdCfg := fun _ => decodeTxn_rd .cfg

theorem wrCfg (d : Word) : Statement (.wrCfg d) := fun _ => decodeTxn_wr .cfg d

theorem rdRounds : Statement .rdRounds := fun _ => decodeTxn_rd .rounds

theorem wrRounds (d : Word) : Statement (.wrRounds d) := fun _ => decodeTxn_wr .rounds d

theorem rdKey0 : Statement .rdKey0 := fun _ => decodeTxn_rd .key0

theorem wrKey0 (d : Word) : Statement (.wrKey0 d) := fun _ => decodeTxn_wr .key0 d

theorem rdKey1 : Statement .rdKey1 := fun _ => decodeTxn_rd .key1

theorem wrKey1 (d : Word) : Statement (.wrKey1 d) := fun _ => decodeTxn_wr .key1 d

theorem rdKey2 : Statement .rdKey2 := fun _ => decodeTxn_rd .key2

theorem wrKey2 (d : Word) : Statement (.wrKey2 d) := fun _ => decodeTxn_wr .key2 d

theorem rdKey3 : Statement .rdKey3 := fun _ => decodeTxn_rd .key3

theorem wrKey3 (d : Word) : Statement (.wrKey3 d) := fun _ => decodeTxn_wr .key3 d

theorem rdData0 : Statement .rdData0 := fun _ => decodeTxn_rd .data0

theorem wrData0 (d : Word) : Statement (.wrData0 d) := fun _ => decodeTxn_wr .data0 d

theorem rdData1 : Statement .rdData1 := fun _ => decodeTxn_rd .data1

theorem wrData1 (d : Word) : Statement (.wrData1 d) := fun _ => decodeTxn_wr .data1 d

theorem nop : Statement .nop := fun _ => rfl

theorem enc : Statement .enc := fun _ => rfl

theorem dec : Statement .dec := fun _ => rfl

theorem illegalCmd (c : Word) : Statement (.illegalCmd c) := by
  intro h
  simp [decode, encode, decodeCmd_illegal c (by simpa [Instr.wellFormed] using h)]

end Sys2Proof.Laws.RoundTrip
end

