-- ==== Sys2Proof/Laws/Step.lean ====
section
/-! SUPPORT. What a step of the machine can do, said once, and the equations of the engine agent's step. -/

namespace Sys2Proof.Machine

theorem Engine.agentStep_idle (e : Engine) (h : e.status.busy = false) : e.agentStep = e := by
  simp [Engine.agentStep, h]

theorem Engine.agentStep_complete (e : Engine) (hb : e.status.busy = true) (hc : e.cnt = e.n) :
    e.agentStep = e.completionStep := by
  simp [Engine.agentStep, hb, hc]

theorem Engine.agentStep_round (e : Engine) (hb : e.status.busy = true) (hc : e.cnt < e.n) :
    e.agentStep = e.roundStep := by
  have hne : e.cnt ≠ e.n := fun h => BitVec.lt_irrefl _ (h ▸ hc)
  simp [Engine.agentStep, hb, hc, hne]

/-- A round step changes no field that the bus can see (R134). -/
theorem Engine.roundStep_frame (e : Engine) :
    e.roundStep.status = e.status ∧ e.roundStep.cfg = e.cfg ∧ e.roundStep.rounds = e.rounds ∧
      e.roundStep.key = e.key ∧ e.roundStep.data0 = e.data0 ∧ e.roundStep.data1 = e.data1 ∧
      e.roundStep.n = e.n ∧ e.roundStep.op = e.op :=
  ⟨rfl, rfl, rfl, rfl, rfl, rfl, rfl, rfl⟩

/-- The move of the agenda's first entry. -/
theorem step_cons (s : State) (ev : Event) (rest : List Event) (h : s.agenda = ev :: rest) :
    step s = eventStep ev (s.setAgenda rest) := by
  simp [step, nextMove, h]

/-- With an empty agenda the engine agent moves (log 4). -/
theorem step_nil (s : State) (h : s.agenda = []) : step s = .next (engineStep s) := by
  simp [step, nextMove, h]

/-- What one step can do: a host's transaction runs, the engine takes its step, the engine takes the reset state, or
`rst_n` is released. -/
inductive Move (s t : State) : Prop where
  | host (m : Nat) (x : Txn) (rest : List Event) (i : Instr) (ha : s.agenda = .txn m x :: rest) (hr : s.rstN = true)
      (hd : decodeTxn x = .ok i) (he : exec i ((s.setAgenda rest).setIssuer m) = .next t)
  | engine (hm : s.engineMoves) (he : t.engine = s.engine.agentStep) (hf : t.hostFaults = s.hostFaults)
      (hr : t.rstN = true) (ha : t.agenda = s.agenda.tail)
  | reset (hm : s.resetsNext) (he : t.engine = Engine.reset) (hf : t.hostFaults = s.hostFaults)
      (hr : t.rstN = false) (ha : t.agenda = s.agenda.tail)
  | release (rest : List Event) (ha : s.agenda = .resetHigh :: rest) (he : t.engine = s.engine)
      (hf : t.hostFaults = s.hostFaults) (hr : t.rstN = true) (hg : t.agenda = rest)

/-- An edge without a transaction. -/
theorem engineStep_move (s u : State) (hu : u = s ∨ ∃ rest, s.agenda = .engine :: rest ∧ u = s.setAgenda rest)
    (h0 : u = s → s.agenda = []) : Move s (engineStep u) := by
  have hm : s.agenda = [] ∨ ∃ rest, s.agenda = .engine :: rest := by
    rcases hu with rfl | ⟨rest, h, -⟩
    · exact .inl (h0 rfl)
    · exact .inr ⟨rest, h⟩
  have key : u.engine = s.engine ∧ u.rstN = s.rstN ∧ u.hostFaults = s.hostFaults ∧ u.agenda = s.agenda.tail := by
    rcases hu with rfl | ⟨rest, h, rfl⟩
    · simp [h0 rfl]
    · simp [h]
  obtain ⟨k1, k2, k3, k4⟩ := key
  cases hr : s.rstN
  · refine .reset (.inr ⟨hr, hm⟩) ?_ ?_ ?_ ?_ <;> simp [engineStep, resetEdge, k2, hr, k3, k4]
  · refine .engine ⟨hr, hm⟩ ?_ ?_ ?_ ?_ <;> simp [engineStep, k1, k2, hr, k3, k4]

/-- Every step that answers a next state is one of the moves. -/
theorem step_cases (s t : State) (h : step s = .next t) : Move s t := by
  cases ha : s.agenda with
  | nil =>
    rw [step_nil s ha] at h
    cases h
    exact engineStep_move s s (.inl rfl) fun _ => ha
  | cons ev rest =>
    rw [step_cons s ev rest ha] at h
    cases ev with
    | txn m x =>
      cases hr : s.rstN
      · simp [eventStep, hostStep, hr] at h
      · cases hd : decodeTxn x with
        | ok i => exact .host m x rest i ha hr hd (by simpa [eventStep, hostStep, hr, hd] using h)
        | error _ => simp [eventStep, hostStep, hr, hd] at h
    | engine =>
      cases h
      exact engineStep_move s _ (.inr ⟨rest, ha, rfl⟩) fun hs => by
        have := congrArg State.agenda hs
        simp [ha] at this
    | resetLow => cases h; exact .reset (.inl ⟨rest, ha⟩) rfl rfl rfl (by simp [ha, resetLowStep, resetEdge])
    | resetHigh => cases h; exact .release rest ha rfl rfl rfl rfl

/-- A run's first step. -/
theorem run_succ_of_step (M : Host.Core) (k : Nat) (s t : M.State) (h : M.step s = .next t) :
    M.run (k + 1) s = M.run k t := by
  conv => lhs; unfold Host.Core.run
  rw [h]

/-- A run that answers a next state passes through one. -/
theorem step_of_run_succ (M : Host.Core) (k : Nat) (s t : M.State) (h : M.run (k + 1) s = .next t) :
    ∃ u, M.step s = .next u ∧ M.run k u = .next t := by
  unfold Host.Core.run at h
  split at h
  · rename_i u hu; exact ⟨u, hu, h⟩
  · cases h
  · cases h

/-- A run of this machine after its first step. -/
theorem core_run_succ (k : Nat) (s t : State) (h : step s = .next t) : core.run (k + 1) s = core.run k t :=
  run_succ_of_step core k s t h

/-- A run of this machine that answers a next state, taken apart. -/
theorem core_run_cases (k : Nat) (s t : State) (h : core.run (k + 1) s = .next t) :
    ∃ u : State, step s = .next u ∧ core.run k u = .next t :=
  step_of_run_succ core k s t h

end Sys2Proof.Machine
end

