-- ==== Sys2Proof/Laws/Transform.lean ====
section
/-! SUPPORT. Small lemmas of the rounds: the sum a round leaves, and the rounds taken from the front. -/

namespace Sys2Proof.Machine

@[simp] theorem encRound_sum (k : Key) (r : RoundState) : (encRound k r).sum = r.sum + delta := rfl

@[simp] theorem decRound_sum (k : Key) (r : RoundState) : (decRound k r).sum = r.sum - delta := rfl

@[simp] theorem encRounds_zero (k : Key) (r : RoundState) : encRounds k 0 r = r := rfl

@[simp] theorem decRounds_zero (k : Key) (r : RoundState) : decRounds k 0 r = r := rfl

/-- The first of `m + 1` encipher rounds taken first. -/
theorem encRounds_succ_front (k : Key) (m : Nat) (r : RoundState) :
    encRounds k (m + 1) r = encRounds k m (encRound k r) := by
  induction m with
  | zero => rfl
  | succ m ih => exact congrArg (encRound k) ih

/-- The first of `m + 1` decipher rounds taken first. -/
theorem decRounds_succ_front (k : Key) (m : Nat) (r : RoundState) :
    decRounds k (m + 1) r = decRounds k m (decRound k r) := by
  induction m with
  | zero => rfl
  | succ m ih => exact congrArg (decRound k) ih

/-- One more round of the operation in flight. -/
theorem roundsOf_succ (op : Op) (k : Key) (m : Nat) (r : RoundState) :
    roundsOf op k (m + 1) r = roundOf op k (roundsOf op k m r) := by
  cases op <;> rfl

/-- The result of an operation is the block its rounds leave (R104, R107). -/
theorem transformOf_eq (op : Op) (n : Word) (v : Block) (k : Key) :
    transformOf op n v k = (roundsOf op k n.toNat { v0 := v.v0, v1 := v.v1, sum := startSum op n }).block := by
  cases op <;> rfl

end Sys2Proof.Machine
end

