-- ==== Sys2Proof/Tests/Slice0.lean ====
section
/-! SUPPORT. Tests and witnesses. Expected values come from the spec: 30_encoding.md R81 to R85 and 95_test_vectors.md V1 to V64, named in each test; none is the model's own answer. -/

namespace Sys2Proof.Tests

open Sys2Proof.Machine

/-! ### Helpers -/

/-- The outcome is a next state with the property `p`. -/
def answers (o : StepOutcome) (p : State → Bool) : Bool :=
  match o with
  | .next s => p s
  | .fault _ => false
  | .refused _ => false

/-- The reset engine with its STATUS and CFG fields set. -/
def engineWith (st : Status) (c : Cfg) : Engine := { Engine.reset with status := st, cfg := c }

/-- Idle, with the flags given. -/
def idle (done err : Bool) (code : BitVec 4) (c : Cfg := ⟨false, false, false⟩) : State :=
  { State.reset with engine := engineWith ⟨false, done, err, code⟩ c }

/-- Busy, with the flags given. -/
def busy (err : Bool) (code : BitVec 4) (c : Cfg := ⟨false, false, false⟩) : State :=
  { State.reset with engine := engineWith ⟨true, false, err, code⟩ c }

/-- The state in which the next moves are `evs`. -/
def withAgenda (s : State) (evs : List Event) : State := { s with agenda := evs }

/-- The spec's key K (95_test_vectors.md V2). -/
def keyK : Key := ⟨0xF0E1D2C3#32, 0xB4A59687#32, 0x78695A4B#32, 0x3C2D1E0F#32⟩

/-- The zero key. -/
def key0 : Key := ⟨0#32, 0#32, 0#32, 0#32⟩

/-- The STATUS word read back after an outcome. -/
def statusIs (w : Word) (s : State) : Bool := s.engine.status.word == w

/-- The bus answered `v` without an error. -/
def returned (v : Word) (s : State) : Bool := s.resp == some { rdata := v, err := false }

/-- The bus answered with the error response, the agent 0 was faulted with `c`, and the engine is `e`. -/
def bussed (c : BusCause) (e : Engine) (s : State) : Bool :=
  s.resp == some { rdata := 0#32, err := true } && s.hostFaults == [{ master := 0, cause := c }] && s.engine == e

/-! ### WellFormed: a term each check refuses, and its neighbour -/

theorem test_wf_be0 : (Instr.buserrPartialBe0 true 0x30#6 0b1111#4 0#32).wellFormed = false := by decide
theorem test_wf_be1 : (Instr.buserrPartialBe1 true 0x30#6 0b1100#4 0#32).wellFormed = false := by decide
theorem test_wf_be2 : (Instr.buserrPartialBe2 true 0x30#6 0b1111#4 0#32).wellFormed = false := by decide
theorem test_wf_be3 : (Instr.buserrPartialBe3 true 0x30#6 0b0011#4 0#32).wellFormed = false := by decide
theorem test_wf_addr0 : (Instr.buserrMisalignedAddr0 false 0x30#6 0#32).wellFormed = false := by decide
theorem test_wf_addr1 : (Instr.buserrMisalignedAddr1 false 0x33#6 0#32).wellFormed = false := by decide
theorem test_wf_illegal_cmd :
    (Instr.illegalCmd 0#32).wellFormed = false ∧ (Instr.illegalCmd 1#32).wellFormed = false ∧
      (Instr.illegalCmd 2#32).wellFormed = false ∧ (Instr.illegalCmd 3#32).wellFormed = true := by decide

/-! ### Decode: words written out bit by bit, `w`, `aaaaaa`, `bbbb` (R81, R82, R83) and the 32 bits of CMD (R84) -/

theorem test_decode_partial (d : Word) :
    decodeTxn (.ofSel 0b01100001110#11 d) = .ok (.buserrPartialBe0 false 0b110000#6 0b1110#4 d) ∧
    decodeTxn (.ofSel 0b11100001101#11 d) = .ok (.buserrPartialBe1 true 0b110000#6 0b1101#4 d) ∧
    decodeTxn (.ofSel 0b00000001011#11 d) = .ok (.buserrPartialBe2 false 0b000000#6 0b1011#4 d) ∧
    decodeTxn (.ofSel 0b10001000111#11 d) = .ok (.buserrPartialBe3 true 0b000100#6 0b0111#4 d) := by
  refine ⟨?_, ?_, ?_, ?_⟩ <;> simp [decodeTxn, Txn.ofSel]

/-- V57: at a misaligned reserved offset, a partial access is decided first. -/
theorem test_decode_partial_first (d : Word) :
    decodeTxn (.ofSel 0b10101010011#11 d) = .ok (.buserrPartialBe2 true 0b010101#6 0b0011#4 d) := by
  simp [decodeTxn, Txn.ofSel]

theorem test_decode_misaligned (d : Word) :
    decodeTxn (.ofSel 0b01100011111#11 d) = .ok (.buserrMisalignedAddr0 false 0b110001#6 d) ∧
    decodeTxn (.ofSel 0b10101101111#11 d) = .ok (.buserrMisalignedAddr1 true 0b010110#6 d) := by
  refine ⟨?_, ?_⟩ <;> simp [decodeTxn, Txn.ofSel]

theorem test_decode_unmapped (d : Word) :
    decodeTxn (.ofSel 0b00101001111#11 d) = .ok (.buserrUnmapped14 false d) ∧
    decodeTxn (.ofSel 0b10110001111#11 d) = .ok (.buserrUnmapped18 true d) ∧
    decodeTxn (.ofSel 0b00111001111#11 d) = .ok (.buserrUnmapped1C false d) ∧
    decodeTxn (.ofSel 0b11110001111#11 d) = .ok (.buserrUnmapped38 true d) ∧
    decodeTxn (.ofSel 0b01111001111#11 d) = .ok (.buserrUnmapped3C false d) := by
  refine ⟨?_, ?_, ?_, ?_, ?_⟩ <;> simp [decodeTxn, Txn.ofSel, decodeOffset, decodeReserved]

theorem test_decode_id_cmd (d : Word) :
    decodeTxn (.ofSel 0b00000001111#11 d) = .ok .rdId ∧
    decodeTxn (.ofSel 0b10000001111#11 d) = .ok (.wrId d) ∧
    decodeTxn (.ofSel 0b00001001111#11 d) = .ok .rdCmd ∧
    decodeTxn (.ofSel 0b10001001111#11 d) = .ok (.wrCmd d) := by
  refine ⟨?_, ?_, ?_, ?_⟩ <;> simp [decodeTxn, Txn.ofSel, decodeOffset, decodeReserved, decodeRead, decodeWrite]

theorem test_decode_status_cfg_rounds (d : Word) :
    decodeTxn (.ofSel 0b00010001111#11 d) = .ok .rdStatus ∧
    decodeTxn (.ofSel 0b10010001111#11 d) = .ok (.wrStatus d) ∧
    decodeTxn (.ofSel 0b00011001111#11 d) = .ok .rdCfg ∧
    decodeTxn (.ofSel 0b10011001111#11 d) = .ok (.wrCfg d) ∧
    decodeTxn (.ofSel 0b00100001111#11 d) = .ok .rdRounds ∧
    decodeTxn (.ofSel 0b10100001111#11 d) = .ok (.wrRounds d) := by
  refine ⟨?_, ?_, ?_, ?_, ?_, ?_⟩ <;> simp [decodeTxn, Txn.ofSel, decodeOffset, decodeReserved, decodeRead, decodeWrite]

theorem test_decode_keys (d : Word) :
    decodeTxn (.ofSel 0b01000001111#11 d) = .ok .rdKey0 ∧
    decodeTxn (.ofSel 0b11000001111#11 d) = .ok (.wrKey0 d) ∧
    decodeTxn (.ofSel 0b01001001111#11 d) = .ok .rdKey1 ∧
    decodeTxn (.ofSel 0b11001001111#11 d) = .ok (.wrKey1 d) ∧
    decodeTxn (.ofSel 0b01010001111#11 d) = .ok .rdKey2 ∧
    decodeTxn (.ofSel 0b11010001111#11 d) = .ok (.wrKey2 d) ∧
    decodeTxn (.ofSel 0b01011001111#11 d) = .ok .rdKey3 ∧
    decodeTxn (.ofSel 0b11011001111#11 d) = .ok (.wrKey3 d) := by
  refine ⟨?_, ?_, ?_, ?_, ?_, ?_, ?_, ?_⟩ <;> simp [decodeTxn, Txn.ofSel, decodeOffset, decodeReserved, decodeRead, decodeWrite]

theorem test_decode_data (d : Word) :
    decodeTxn (.ofSel 0b01100001111#11 d) = .ok .rdData0 ∧
    decodeTxn (.ofSel 0b11100001111#11 d) = .ok (.wrData0 d) ∧
    decodeTxn (.ofSel 0b01101001111#11 d) = .ok .rdData1 ∧
    decodeTxn (.ofSel 0b11101001111#11 d) = .ok (.wrData1 d) := by
  refine ⟨?_, ?_, ?_, ?_⟩ <;> simp [decodeTxn, Txn.ofSel, decodeOffset, decodeReserved, decodeRead, decodeWrite]

theorem test_decode_commands :
    decodeCmd 0b00000000000000000000000000000000#32 = .nop ∧
    decodeCmd 0b00000000000000000000000000000001#32 = .enc ∧
    decodeCmd 0b00000000000000000000000000000010#32 = .dec ∧
    decodeCmd 0b00000000000000000000000000000011#32 = .illegalCmd 3#32 ∧
    decodeCmd 0b10000000000000000000000000000001#32 = .illegalCmd 0x80000001#32 := by decide

/-- The opcode table's bits: a selector alone, a selector with its data word above it, a CMD word, the 8-bit rows. -/
theorem test_decode_table_word :
    decodeTableWord 16 0x44F = some (.wrCmd 0#32) ∧
    decodeTableWord 48 0x12345678070F = some (.wrData0 0x12345678#32) ∧
    decodeTableWord 32 0x1 = some .enc ∧
    decodeTableWord 8 0x00 = some (.buserrPartialBe0 false 0#6 0#4 0#32) ∧
    decodeTableWord 16 0x80F = none ∧ decodeTableWord 64 0 = none := by decide

/-- A write of the data word's bits reaches `wdata` and nothing else (R80). -/
theorem test_encode_wr_data0 : (encode (.wrData0 0xAABBCCDD#32)).txn = ⟨true, 0x30#6, 0b1111#4, 0xAABBCCDD#32⟩ := by decide

/-! ### The bus-errored rows (V34, V53 to V58, V62) -/

theorem test_partial_be0 :
    answers (exec (.buserrPartialBe0 true 0x30#6 0xE#4 0x12345678#32) (busy false 0#4))
      (bussed .partialAccess (busy false 0#4).engine) = true := by decide
theorem test_partial_be1 :
    answers (exec (.buserrPartialBe1 false 0#6 0b0001#4 0#32) (idle true false 0#4))
      (bussed .partialAccess (idle true false 0#4).engine) = true := by decide
theorem test_partial_be2 :
    answers (exec (.buserrPartialBe2 true 0x15#6 0b0011#4 0#32) State.reset) (bussed .partialAccess Engine.reset) = true := by decide
theorem test_partial_be3 :
    answers (exec (.buserrPartialBe3 true 0x04#6 0b0111#4 1#32) State.reset) (bussed .partialAccess Engine.reset) = true := by decide
theorem test_misaligned_addr0 :
    answers (exec (.buserrMisalignedAddr0 false 0x31#6 0#32) State.reset) (bussed .misaligned Engine.reset) = true := by decide
theorem test_misaligned_addr1 :
    answers (exec (.buserrMisalignedAddr1 true 0x16#6 0#32) State.reset) (bussed .misaligned Engine.reset) = true := by decide
theorem test_unmapped_14 :
    answers (exec (.buserrUnmapped14 true 0#32) (idle false false 0#4 ⟨false, true, false⟩)) (fun s =>
      bussed .unmapped (idle false false 0#4 ⟨false, true, false⟩).engine s && !s.engine.irq) = true := by decide
theorem test_unmapped_18 :
    answers (exec (.buserrUnmapped18 false 0#32) State.reset) (bussed .unmapped Engine.reset) = true := by decide
theorem test_unmapped_1C :
    answers (exec (.buserrUnmapped1C false 0#32) State.reset) (bussed .unmapped Engine.reset) = true := by decide
theorem test_unmapped_38 :
    answers (exec (.buserrUnmapped38 false 0#32) State.reset) (bussed .unmapped Engine.reset) = true := by decide
theorem test_unmapped_3C :
    answers (exec (.buserrUnmapped3C true 0xFFFFFFFF#32) State.reset) (bussed .unmapped Engine.reset) = true := by decide
theorem test_wr_id :
    answers (exec (.wrId 0#32) (busy false 0#4)) (bussed .readOnly (busy false 0#4).engine) = true := by decide

/-! ### The reads (V33, V35, V36, V42, V45, V48, V22, V52) -/

theorem test_rd_id : answers (exec .rdId (busy false 0#4)) (returned 0x58544541#32) = true := by decide
theorem test_rd_cmd : answers (exec .rdCmd (busy false 0#4)) (returned 0#32) = true := by decide
theorem test_rd_status : answers (exec .rdStatus (busy true 2#4)) (returned 0x00000025#32) = true := by decide
theorem test_rd_status_idle : answers (exec .rdStatus (idle true true 3#4)) (returned 0x00000036#32) = true := by decide
theorem test_rd_cfg :
    answers (exec .rdCfg (idle false false 0#4 ⟨true, true, true⟩)) (returned 0x00000007#32) = true := by decide
theorem test_rd_cfg_lock :
    answers (exec .rdCfg (idle false false 0#4 ⟨false, false, true⟩)) (returned 0x00000004#32) = true := by decide
theorem test_rd_rounds : answers (exec .rdRounds State.reset) (returned 0x00000020#32) = true := by decide

/-- A state with the key K. -/
def keyed : State := { State.reset with engine := { Engine.reset with key := keyK, data0 := 0xDEE9D4D8#32, data1 := 0xF7131ED9#32 } }

theorem test_rd_key0 : answers (exec .rdKey0 keyed) (returned 0#32) = true := by decide
theorem test_rd_key1 : answers (exec .rdKey1 keyed) (returned 0#32) = true := by decide
theorem test_rd_key2 : answers (exec .rdKey2 keyed) (returned 0#32) = true := by decide
theorem test_rd_key3 : answers (exec .rdKey3 keyed) (returned 0#32) = true := by decide
theorem test_rd_data0 : answers (exec .rdData0 keyed) (returned 0xDEE9D4D8#32) = true := by decide
theorem test_rd_data1 : answers (exec .rdData1 keyed) (returned 0xF7131ED9#32) = true := by decide

/-! ### The writes (V37 to V41, V43, V44, V46, V47, V49 to V51, V59) -/

theorem test_wr_status_busy : answers (exec (.wrStatus 1#32) (busy false 0#4)) (statusIs 0x01#32) = true := by decide
theorem test_wr_status_err : answers (exec (.wrStatus 4#32) (idle true true 1#4)) (statusIs 0x02#32) = true := by decide
theorem test_wr_cfg_lock_stays :
    answers (exec (.wrCfg 0#32) (idle false false 0#4 ⟨true, true, true⟩)) (fun s => s.engine.cfg.word == 4#32) = true := by decide
theorem test_wr_cfg_busy :
    answers (exec (.wrCfg 3#32) (busy false 0#4)) (fun s => s.engine.cfg.word == 3#32 && s.engine.status.busy) = true := by decide
theorem test_wr_rounds :
    answers (exec (.wrRounds 0xFFFFFFFF#32) State.reset) (fun s => s.engine.rounds == 0xFFFFFFFF#32) = true := by decide
theorem test_wr_rounds_busy :
    answers (exec (.wrRounds 0x10#32) (busy false 0#4)) (fun s => s.engine.rounds == 0x20#32 && statusIs 0x25#32 s) = true := by decide
theorem test_wr_key0_locked :
    answers (exec (.wrKey0 0#32) (idle false true 1#4 ⟨false, false, true⟩)) (statusIs 0x14#32) = true := by decide
theorem test_wr_key0 :
    answers (exec (.wrKey0 0xF0E1D2C3#32) State.reset) (fun s => s.engine.key == ⟨0xF0E1D2C3#32, 0#32, 0#32, 0#32⟩) = true := by decide
theorem test_wr_key1 :
    answers (exec (.wrKey1 0xB4A59687#32) State.reset) (fun s => s.engine.key == ⟨0#32, 0xB4A59687#32, 0#32, 0#32⟩) = true := by decide
theorem test_wr_key2_locked :
    answers (exec (.wrKey2 7#32) (idle false false 0#4 ⟨false, false, true⟩))
      (fun s => statusIs 0x34#32 s && s.engine.key == key0) = true := by decide
theorem test_wr_key2 :
    answers (exec (.wrKey2 0x78695A4B#32) State.reset) (fun s => s.engine.key == ⟨0#32, 0#32, 0x78695A4B#32, 0#32⟩) = true := by decide
theorem test_wr_key3_busy_locked :
    answers (exec (.wrKey3 7#32) (busy false 0#4 ⟨false, false, true⟩))
      (fun s => statusIs 0x25#32 s && s.engine.key == key0) = true := by decide
theorem test_wr_key3 :
    answers (exec (.wrKey3 0x3C2D1E0F#32) State.reset) (fun s => s.engine.key == ⟨0#32, 0#32, 0#32, 0x3C2D1E0F#32⟩) = true := by decide
theorem test_wr_data0 :
    answers (exec (.wrData0 0xAABBCCDD#32) (idle true false 0#4))
      (fun s => s.engine.data0 == 0xAABBCCDD#32 && s.engine.data1 == 0#32 && statusIs 0x02#32 s) = true := by decide
theorem test_wr_data0_busy :
    answers (exec (.wrData0 0x12345678#32) (busy false 0#4)) (fun s => s.engine.data0 == 0#32 && statusIs 0x25#32 s) = true := by decide
theorem test_wr_data1 :
    answers (exec (.wrData1 0xEEFF0011#32) State.reset) (fun s => s.engine.data0 == 0#32 && s.engine.data1 == 0xEEFF0011#32) = true := by decide
theorem test_wr_data1_busy_err :
    answers (exec (.wrData1 0x12345678#32) (busy true 1#4)) (fun s => s.engine.data1 == 0#32 && statusIs 0x15#32 s) = true := by decide

/-! ### The commands (V18 to V20, V23, V26 to V32) -/

theorem test_nop : answers (exec .nop (idle true false 0#4)) (fun s => s.engine == (idle true false 0#4).engine) = true := by decide
theorem test_nop_busy : answers (exec .nop (busy false 0#4)) (statusIs 0x25#32) = true := by decide
theorem test_enc :
    answers (exec .enc (idle true false 0#4)) (fun s => statusIs 0x01#32 s && s.engine.n == 32#32 && s.engine.cnt == 0#32 &&
      s.engine.sum == 0#32 && s.engine.op == .enc) = true := by decide
theorem test_enc_err : answers (exec .enc (idle false true 1#4)) (statusIs 0x15#32) = true := by decide
theorem test_dec :
    answers (exec .dec keyed) (fun s => statusIs 0x01#32 s && s.engine.w0 == 0xDEE9D4D8#32 && s.engine.w1 == 0xF7131ED9#32 &&
      s.engine.sum == 0xC6EF3720#32 && s.engine.op == .dec) = true := by decide
theorem test_dec_busy : answers (exec .dec (busy false 0#4)) (statusIs 0x25#32) = true := by decide
theorem test_illegal_cmd : answers (exec (.illegalCmd 3#32) State.reset) (statusIs 0x14#32) = true := by decide
theorem test_illegal_cmd_busy : answers (exec (.illegalCmd 3#32) (busy false 0#4)) (statusIs 0x25#32) = true := by decide
theorem test_wr_cmd_rsv : answers (exec (.wrCmd 0x80000001#32) State.reset) (statusIs 0x14#32) = true := by decide
theorem test_wr_cmd_enc : answers (exec (.wrCmd 1#32) (idle false true 1#4)) (statusIs 0x15#32) = true := by decide

/-! ### The transform (V1, V6, V9, V10, V12, V15) and the engine's steps (V25, V60, V61) -/

theorem test_mixF : mixF 0x12345678#32 = 0x36091BAB#32 ∧ mixF 0x9E3779B9#32 = 0x85BD9A16#32 := by decide
theorem test_key_select :
    keyK.ka 0x3C6EF372#32 = 0x78695A4B#32 ∧ keyK.kb 0xDAA66D2B#32 = 0xB4A59687#32 ∧ keyK.kb 0x1800#32 = 0x3C2D1E0F#32 := by decide
theorem test_encRound :
    encRound keyK ⟨0xAABBCCDD#32, 0xEEFF0011#32, 0#32⟩ = ⟨0xD222F8BF#32, 0x1B84034D#32, 0x9E3779B9#32⟩ := by decide
theorem test_decRound :
    decRound keyK ⟨0x59200116#32, 0x78B56310#32, 0x3C6EF372#32⟩ = ⟨0xD222F8BF#32, 0x1B84034D#32, 0x9E3779B9#32⟩ := by decide
theorem test_encipher_two : encipher 2#32 ⟨1#32, 2#32⟩ keyK = ⟨0x64AD0507#32, 0x3A99D535#32⟩ := by decide
theorem test_decipher_one : decipher 1#32 ⟨0#32, 0#32⟩ key0 = ⟨0x7EB15977#32, 0x61C88647#32⟩ := by decide
theorem test_big_endian :
    (BlockBytes.mk 0xAA#8 0xBB#8 0xCC#8 0xDD#8 0xEE#8 0xFF#8 0x00#8 0x11#8).toBlock = ⟨0xAABBCCDD#32, 0xEEFF0011#32⟩ ∧
      littleEndianLoad 0xAA#8 0xBB#8 0xCC#8 0xDD#8 = 0xDDCCBBAA#32 ∧ byteSwap 0xDDCCBBAA#32 = 0xAABBCCDD#32 := by decide

/-- In flight with no round to do: the next engine step completes (V25, V60). -/
def lastStep : State :=
  { State.reset with engine := { engineWith ⟨true, false, true, 2#4⟩ ⟨true, false, false⟩ with
      rounds := 0#32, data0 := 0x12345678#32, data1 := 0x9ABCDEF0#32, w0 := 0x12345678#32, w1 := 0x9ABCDEF0#32 } }

theorem test_completion :
    answers (step lastStep) (fun s => statusIs 0x26#32 s && s.engine.block == ⟨0x12345678#32, 0x9ABCDEF0#32⟩ && s.engine.irq) = true := by decide

/-- In flight with one round to do, on the zero block and key. -/
def oneRound : State := { State.reset with engine := { (busy false 0#4).engine with rounds := 1#32, n := 1#32 } }

theorem test_round_step :
    answers (step oneRound) (fun s => s.engine.work == ⟨0#32, 0x9E3779B9#32, 0x9E3779B9#32⟩ && s.engine.cnt == 1#32 &&
      s.engine.block == ⟨0#32, 0#32⟩ && statusIs 0x01#32 s) = true := by decide

/-- With the engine idle no engine step is enabled (R134, R135): DATA, KEY and ROUNDS stay. -/
theorem test_idle_engine_move : answers (step keyed) (fun s => s.engine == keyed.engine) = true := by decide

/-- The release of `rst_n` takes the engine out of reset and changes nothing of it (R236 step 1). -/
theorem test_reset_release :
    answers (step { withAgenda keyed [.resetHigh] with rstN := false }) (fun s => s.rstN && s.engine == keyed.engine) = true := by decide

/-- V64: a reset in the middle of an operation. -/
theorem test_reset_in_flight :
    answers (step (withAgenda lastStep [.resetLow])) (fun s => s.engine == Engine.reset && !s.engine.irq && !s.rstN) = true := by decide

/-- The placed word runs as the very next step. -/
theorem test_withFetchWord :
    answers (step (State.reset.withFetchWord 48 0xAABBCCDD074F)) (fun s => s.engine.data1 == 0xAABBCCDD#32) = true ∧
    answers (step (State.reset.withFetchWord 32 1)) (statusIs 0x01#32) = true := by decide

/-! ### Witnesses: for each obligation with hypotheses, a state and operands that meet them -/

/-- Some transaction at offset `a`. -/
def anyTxn (w : Bool) (a : BitVec 6) (b : BitVec 4) : Txn := ⟨w, a, b, 0xFFFFFFFF#32⟩

theorem witness_DecodeOfEncodeIsTheInstruction :
    (Instr.buserrPartialBe0 true 0x3F#6 0#4 0#32).wellFormed = true ∧ (Instr.buserrPartialBe1 true 0#6 1#4 0#32).wellFormed = true ∧
    (Instr.buserrPartialBe2 true 0#6 3#4 0#32).wellFormed = true ∧ (Instr.buserrPartialBe3 true 0#6 7#4 0#32).wellFormed = true ∧
    (Instr.buserrMisalignedAddr0 true 0x3F#6 0#32).wellFormed = true ∧ (Instr.buserrMisalignedAddr1 true 2#6 0#32).wellFormed = true ∧
    (Instr.illegalCmd 0xFFFFFFFF#32).wellFormed = true ∧ (Instr.wrData1 0#32).wellFormed = true ∧ Instr.enc.wellFormed = true := by decide

theorem witness_EncodeOfDecodeIsTheTransaction :
    decodeTxn (anyTxn true 0x34#6 0xF#4) = .ok (.wrData1 0xFFFFFFFF#32) ∧ decodeTxn (anyTxn false 0x00#6 0xF#4) = .ok .rdId := ⟨rfl, rfl⟩

theorem witness_StepRunsTheDecodedTransaction :
    (withAgenda State.reset [.txn 3 (wr .data0 7#32)]).rstN = true ∧ decodeTxn (wr .data0 7#32) = .ok (.wrData0 7#32) := ⟨rfl, rfl⟩

/-- One transaction for each clause, at the ends of the ranges, and one for the clauses that could meet. -/
theorem witness_SelectorChecksRunInOrder :
    State.reset.rstN = true ∧ (0#4 ≠ 0xF#4 ∧ 0xE#4 ≠ 0xF#4) ∧ (0x01#6).extractLsb' 0 2 ≠ 0#2 ∧ (0x3F#6).extractLsb' 0 2 ≠ 0#2 ∧
    0x14#6 ∈ reservedOffsets ∧ 0x3C#6 ∈ reservedOffsets ∧ (∀ a ∈ reservedOffsets, a.extractLsb' 0 2 = 0#2 ∧ a ≠ 0x00#6) ∧
    ((0x34#6).extractLsb' 0 2 = 0#2 ∧ 0x34#6 ∉ reservedOffsets) := by decide

theorem witness_RdStatusPlacesItsFields :
    (busy true 2#4).engine.StatusInv ∧ (busy true 2#4).engine.status.busy = true ∧ State.reset.engine.status.busy = false :=
  ⟨⟨by decide, by decide, by decide, by decide⟩, rfl, rfl⟩

theorem witness_WrStatusClearsByWritingOne :
    (0x2#32).getLsbD 1 = true ∧ (0x4#32).getLsbD 2 = true ∧
      ((idle true true 1#4).engine.cfg.errIe && (idle true true 1#4).engine.status.err) = false ∧
      ((idle true true 1#4).engine.cfg.doneIe && (idle true true 1#4).engine.status.done) = false := by decide

/-- Of WR ROUNDS, WR DATA, NOP, the illegal words, ENC and DEC: an idle and a busy state. -/
theorem witness_idle_and_busy : State.reset.engine.status.busy = false ∧ (busy false 0#4).engine.status.busy = true := ⟨rfl, rfl⟩

theorem witness_WrKeyStoresWhenIdleAndUnlocked :
    State.reset.engine.status.busy = false ∧ State.reset.engine.cfg.keyLock = false ∧
      (busy false 0#4 ⟨false, false, true⟩).engine.status.busy = true ∧
      (idle false false 0#4 ⟨false, false, true⟩).engine.status.busy = false ∧
      (idle false false 0#4 ⟨false, false, true⟩).engine.cfg.keyLock = true := by decide

theorem witness_WrCmdDispatches :
    (0x10#32).extractLsb' 4 28 ≠ 0#28 ∧ (0xF#32).extractLsb' 0 4 ∉ [0x0#4, 0x1#4, 0x2#4] ∧
      (0x3#32).extractLsb' 0 4 ∉ [0x0#4, 0x1#4, 0x2#4] ∧
      ((0x2#32).extractLsb' 4 28 = 0#28 ∧ (0x2#32).extractLsb' 0 4 ∈ [0x0#4, 0x1#4, 0x2#4]) := by decide

theorem witness_IllegalCommandIsIgnoredAndRecorded :
    (0x80000001#32).extractLsb' 4 28 ≠ 0#28 ∧ 3 ≤ ((0x3#32).extractLsb' 0 4).toNat ∧ ¬3 ≤ ((0x2#32).extractLsb' 0 4).toNat := by decide

theorem witness_RoundStepTakesOneRound :
    oneRound.engine.status.busy = true ∧ oneRound.engine.cnt < oneRound.engine.n ∧ oneRound.engine.op = .enc ∧
      ({ oneRound.engine with op := .dec, cnt := 0xFFFFFFFE#32, n := 0xFFFFFFFF#32 } : Engine).cnt <
        ({ oneRound.engine with op := .dec, cnt := 0xFFFFFFFE#32, n := 0xFFFFFFFF#32 } : Engine).n := by decide

theorem witness_CompletionStepWritesTheResult :
    lastStep.engine.status.busy = true ∧ lastStep.engine.cnt = lastStep.engine.n ∧ lastStep.engine.cfg.doneIe = true := ⟨rfl, rfl, rfl⟩

/-- The engine's move comes next with an empty agenda, and with its entry on the agenda; an idle engine, and a busy one
with `cnt` just above `n`. -/
theorem witness_EngineMoveIsTheAgentStep :
    oneRound.engineMoves ∧ (withAgenda lastStep [.engine]).engineMoves ∧ keyed.engine.status.busy = false ∧
      { oneRound.engine with cnt := 2#32 }.status.busy = true ∧
      ({ oneRound.engine with cnt := 2#32 } : Engine).n < ({ oneRound.engine with cnt := 2#32 } : Engine).cnt :=
  ⟨⟨rfl, .inl rfl⟩, ⟨rfl, .inr ⟨[], rfl⟩⟩, rfl, rfl, by decide⟩

/-- The step `test_completion` takes: one that answers a next state. -/
theorem witness_step_next : ∃ t, step lastStep = .next t := ⟨_, rfl⟩

/-- A refused write that records code 1, 2 and 3, and a write that clears them. -/
theorem witness_ErrChangesOnlyByItsCauses :
    answers (step (withAgenda State.reset [.txn 0 (wr .cmd 3#32)])) (statusIs 0x14#32) = true ∧
    answers (step (withAgenda (busy false 0#4) [.txn 0 (wr .data1 3#32)])) (statusIs 0x25#32) = true ∧
    answers (step (withAgenda (idle false false 0#4 ⟨false, false, true⟩) [.txn 0 (wr .key3 3#32)])) (statusIs 0x34#32) = true ∧
    answers (step (withAgenda (idle false true 3#4) [.txn 0 (wr .status 4#32)])) (statusIs 0x00#32) = true := by decide

theorem witness_ErrorPriorityIsBusThenBusyThenLockThenIllegal :
    (0xE#4 ≠ 0xF#4 ∧ (0x3F#6).extractLsb' 0 2 ≠ 0#2 ∧ 0x3C#6 ∈ reservedOffsets) ∧ State.reset.engine.status.err = false ∧ State.reset.rstN = true ∧ Reg.cmd ∈ busyRegs ∧ Reg.data1 ∈ busyRegs ∧ Reg.key3 ∈ keyRegs ∧
      (busy false 0#4 ⟨false, false, true⟩).engine.status.err = false ∧
      (idle false false 0#4 ⟨false, false, true⟩).engine.status.err = false ∧
      legalCmdWord 3#32 = false ∧ decodeTxn (wr .key3 0#32) = .ok (.wrKey3 0#32) :=
  ⟨by decide, rfl, rfl, by decide, by decide, by decide, rfl, rfl, by decide, rfl⟩

theorem witness_DoneAndErrAreIndependent : (idle true true 1#4).engine.status.err = true := rfl

theorem witness_SumAfterRoundsFixesTheKeySchedule :
    key0.k0 = (⟨0#32, 1#32, 2#32, 0#32⟩ : Key).k0 ∧ key0.k3 = (⟨0#32, 1#32, 2#32, 0#32⟩ : Key).k3 := ⟨rfl, rfl⟩

theorem witness_FewRoundsIgnoreKeyWords :
    keyK.k0 = { keyK with k1 := 0#32, k2 := 0#32 }.k0 ∧ keyK.k3 = { keyK with k1 := 0#32, k2 := 0#32 }.k3 := ⟨rfl, rfl⟩

theorem witness_ResetAbortsTheOperation :
    (withAgenda lastStep [.resetLow]).resetsNext ∧ ({ lastStep with rstN := false } : State).resetsNext ∧
      ({ withAgenda State.reset [.resetHigh, .txn 0 (rd .id)] with rstN := false } : State).agenda =
        .resetHigh :: [.txn 0 (rd .id)] :=
  ⟨.inl ⟨[], rfl⟩, .inr ⟨rfl, .inl rfl⟩, rfl⟩

theorem witness_TransactionInResetIsRefused :
    ({ withAgenda State.reset [.txn 0 (rd .id)] with rstN := false } : State).rstN = false := rfl

theorem witness_EveryStepAnswersOutOfReset : (withAgenda State.reset [.txn 1 (anyTxn true 0x15#6 3#4)]).rstN = true := rfl

/-- A state in flight that has the invariant, and one more, with an error recorded. -/
theorem witness_EveryStepKeepsTheInvariant : oneRound.Inv ∧ lastStep.Inv :=
  ⟨⟨⟨by decide, by decide, by decide, by decide⟩, fun _ => ⟨rfl, rfl⟩⟩,
    ⟨⟨by decide, by decide, by decide, by decide⟩, fun _ => ⟨rfl, rfl⟩⟩⟩

/-- ROUNDS = 1, an ENC accepted next, a refused write between the round and the completion. -/
def raced : State :=
  withAgenda { State.reset with engine := { Engine.reset with rounds := 1#32 } }
    [.txn 0 (wr .cmd 1#32), .engine, .txn 1 (wr .data0 7#32), .engine]

/-- The four steps of `raced`: busy after the first three, not after the fourth. -/
theorem witness_ResultUnderEveryInterleaving :
    raced.acceptsNext .enc ∧ Event.resetLow ∉ raced.agenda ∧
      (∀ i < 3, ∃ u : State, core.run (i + 1) raced = .next u ∧ u.engine.status.busy = true) ∧
      ∃ t : State, core.run 4 raced = .next t ∧ t.engine.status.busy = false := by
  refine ⟨⟨rfl, rfl, 0, _, rfl⟩, by decide, fun i hi => ?_, ⟨_, rfl, rfl⟩⟩
  match i, hi with
  | 0, _ => exact ⟨_, rfl, rfl⟩
  | 1, _ => exact ⟨_, rfl, rfl⟩
  | 2, _ => exact ⟨_, rfl, rfl⟩

/-- A DEC accepted next. -/
theorem witness_acceptsNext_dec : (withAgenda State.reset [.txn 0 (wr .cmd 2#32)]).acceptsNext .dec := ⟨rfl, rfl, 0, [], rfl⟩

/-- Of the completion after the rounds, and of DEC after ENC. -/
theorem witness_OperationCompletesAfterItsRounds :
    State.reset.rstN = true ∧ State.reset.agenda = [] ∧ State.reset.engine.status.busy = false := ⟨rfl, rfl, rfl⟩

/-- The two ways the operands stay: a round step, and the completion step. -/
theorem witness_OperandsAreStableInFlight :
    (∃ t, step oneRound = .next t ∧ t.engine.status.busy = true) ∧
      (∃ t, step lastStep = .next t ∧ t.engine.status.busy = false) ∧ ¬oneRound.resetsNext ∧ ¬lastStep.resetsNext := by
  refine ⟨⟨_, rfl, rfl⟩, ⟨_, rfl, rfl⟩, ?_, ?_⟩ <;>
    exact fun h => h.elim (fun ⟨_, hr⟩ => nomatch hr) fun ⟨hr, _⟩ => nomatch hr

theorem witness_WritesWhileBusyLeaveTheOperationAlone :
    (busy false 0#4).engine.status.busy = true ∧ (busy false 0#4).engine.status.done = false ∧ (0x4#32).getLsbD 2 = true := by decide

/-- BUSY set by an acceptance; cleared by a completion and by a reset. -/
theorem witness_BusyChangesOnlyByAcceptanceAndCompletion :
    raced.acceptsNext .enc ∧ lastStep.completesNext ∧ (withAgenda lastStep [.resetLow]).resetsNext ∧
      (∃ t, step raced = .next t ∧ t.engine.status.busy = true) ∧ ∃ t, step lastStep = .next t ∧ t.engine.status.busy = false :=
  ⟨⟨rfl, rfl, 0, _, rfl⟩, ⟨⟨rfl, .inl rfl⟩, rfl, rfl⟩, .inl ⟨[], rfl⟩, ⟨_, rfl, rfl⟩, ⟨_, rfl, rfl⟩⟩

/-- DONE cleared by a write to STATUS with bit 1 = 1. -/
theorem witness_DoneChangesOnlyByItsEvents :
    (withAgenda (idle true false 0#4) [.txn 0 (wr .status 2#32)]).presents (wr .status 2#32) ∧ (2#32).getLsbD 1 = true ∧
      answers (step (withAgenda (idle true false 0#4) [.txn 0 (wr .status 2#32)])) (statusIs 0#32) = true :=
  ⟨⟨rfl, 0, [], rfl⟩, by decide, by decide⟩

theorem witness_KeyLockHoldsUntilReset :
    (∃ t, step (withAgenda (idle false false 0#4 ⟨false, false, true⟩) [.txn 0 (wr .cfg 0#32)]) = .next t) ∧
      ¬(withAgenda (idle false false 0#4 ⟨false, false, true⟩) [.txn 0 (wr .cfg 0#32)]).resetsNext :=
  ⟨⟨_, rfl⟩, fun h => h.elim (fun ⟨_, hr⟩ => nomatch hr) fun ⟨hr, _⟩ => nomatch hr⟩

/-- Two engines in flight that differ only in the hidden working state. -/
theorem witness_WorkingStateIsHiddenFromTransactions :
    oneRound.engine ≠ { oneRound.engine with w0 := 5#32, sum := 9#32 } ∧
      ({ oneRound.engine with w0 := 5#32, sum := 9#32 } : Engine).hideWork = oneRound.engine.hideWork := by decide

/-- Two engines that differ only in the key. -/
theorem witness_KeyIsNeverReadBack :
    Engine.reset ≠ { Engine.reset with key := keyK } ∧
      ({ Engine.reset with key := keyK } : Engine).hideKey = Engine.reset.hideKey := by decide

/-- Of each of the interleavings of R206, with another transaction to follow. -/
theorem witness_TransactionBeforeCompletionSeesTheOldState :
    lastStep.rstN = true ∧ lastStep.engine.status.busy = true ∧ lastStep.engine.cnt = lastStep.engine.n ∧
      (withAgenda lastStep [.txn 0 (anyTxn true 0x15#6 3#4), .engine, .txn 1 (rd .id)]).agenda =
        .txn 0 (anyTxn true 0x15#6 3#4) :: .engine :: [.txn 1 (rd .id)] ∧
      (∀ r ∈ [Reg.data0, Reg.data1], (withAgenda lastStep [.txn 0 (wr r 1#32), .engine]).agenda = .txn 0 (wr r 1#32) :: .engine :: []) ∧
      (∀ r ∈ [Reg.data0, Reg.data1, Reg.status], (withAgenda lastStep [.txn 0 (rd r), .engine]).agenda = .txn 0 (rd r) :: .engine :: []) :=
  ⟨rfl, rfl, rfl, rfl, fun _ _ => rfl, fun _ _ => rfl⟩

theorem witness_WindowAddressesAreBasePlusOffset : Config.xteaBase + 64 ≤ Config.xteaBase + 64 := le_refl _

theorem witness_SetKeyAndWaitDoneExpandAsStated :
    (withAgenda State.reset (issue 0 0 (setKey keyK))).agenda = issue 0 0 (setKey keyK) ∧
      (withAgenda State.reset (issue 0 0 (setKey keyK))).rstN = true ∧
      (withAgenda State.reset (issue 0 0 (setKey keyK))).engine.status.busy = false ∧
      (withAgenda State.reset (issue 0 0 (setKey keyK))).engine.cfg.keyLock = false := ⟨rfl, rfl, rfl, rfl⟩

/-! ### Host programs (R91, R92; program P1 and V1, V2 of 95_test_vectors.md) -/

/-- An exchange without a bus error. -/
def answered (t : Txn) (v : Word) : Exchange := { txn := t, resp := { rdata := v, err := false } }

/-- A read of STATUS that returned `v`. -/
def polled (v : Word) : Exchange := answered (rd .status) v

/-- A WAITDONE reads `0x01` zero or more times, then `0x02`; it neither ends on a failing read nor reads on after it passes;
a busy engine with an old error fails it too. -/
theorem test_wait_done :
    hostRun waitDone [polled 1#32, polled 0x25#32, polled 2#32] = some [] ∧ hostRun waitDone [polled 0x26#32] = some [] ∧
      hostRun waitDone [polled 1#32] = none ∧ hostRun waitDone [] = none ∧
      hostRun waitDone [polled 2#32, polled 2#32] = none ∧ hostRun waitDone [polled 0#32] = none := by decide

theorem test_wait_idle :
    hostRun waitIdle [polled 1#32, polled 0x14#32] = some [] ∧ hostRun waitIdle [polled 1#32, polled 1#32] = none ∧
      hostRun waitIdle [answered (rd .cfg) 0#32] = none := by decide

/-- P1's XENC: the two words read are bound to its two variables. -/
theorem test_xenc :
    hostRun (xOp .enc 0#32 0#32 7 8)
      [answered (wr .data0 0#32) 0#32, answered (wr .data1 0#32) 0#32, answered (wr .cmd 1#32) 0#32, polled 1#32, polled 2#32,
        answered (rd .data0) 0xDEE9D4D8#32, answered (rd .data1) 0xF7131ED9#32] =
      some [(7, 0xDEE9D4D8#32), (8, 0xF7131ED9#32)] := by decide

/-- XENC without a passing read of STATUS is no run of it. -/
theorem test_xenc_not_done :
    hostRun (xOp .enc 0#32 0#32 7 8)
      [answered (wr .data0 0#32) 0#32, answered (wr .data1 0#32) 0#32, answered (wr .cmd 1#32) 0#32, polled 1#32,
        answered (rd .data0) 0#32, answered (rd .data1) 0#32] = none := by decide

/-- One step of a host agent is one exchange of it, and none of another agent's. -/
theorem test_exchanges :
    exchanges 0 1 (withAgenda (idle true false 0#4) [.txn 0 (rd .status)]) = [polled 2#32] ∧
      exchanges 1 1 (withAgenda (idle true false 0#4) [.txn 0 (rd .status)]) = [] := by decide

/-- A POLL's exchanges in the statement about it: a failing one and a passing one. -/
theorem witness_poll :
    (polled 1#32).txn = .readAt 0x08#6 ∧ (polled 1#32).resp.rdata &&& 3#32 ≠ 2#32 ∧ (polled 2#32).resp.rdata &&& 3#32 = 2#32 := by decide

end Sys2Proof.Tests
end

section
/-! SUPPORT. The fields of a selector, both ways (30_encoding.md R81). -/

namespace Sys2Proof

/-- The layout of the selector, bit by bit: `bus_be` lowest, `bus_addr` above it, `bus_we` on top. -/
theorem Txn.sel_getLsbD (t : Txn) (i : Nat) :
    t.sel.getLsbD i =
      if i < 4 then t.be.getLsbD i else if i < 10 then t.addr.getLsbD (i - 4) else (BitVec.ofBool t.we).getLsbD (i - 10) := by
  have hsel : t.sel.getLsbD i = if i < 4 then t.be.getLsbD i else (BitVec.ofBool t.we ++ t.addr).getLsbD (i - 4) :=
    BitVec.getLsbD_append
  have htop : (BitVec.ofBool t.we ++ t.addr).getLsbD (i - 4) =
      if i - 4 < 6 then t.addr.getLsbD (i - 4) else (BitVec.ofBool t.we).getLsbD (i - 4 - 6) :=
    BitVec.getLsbD_append
  rw [hsel, htop]
  simp only [Nat.sub_sub, Nat.reduceAdd, show i - 4 < 6 ↔ i < 10 by omega]

theorem Txn.sel_getLsbD_ten (t : Txn) : t.sel.getLsbD 10 = t.we := by
  rw [t.sel_getLsbD]
  simp

theorem Txn.sel_extract_addr (t : Txn) : t.sel.extractLsb' 4 6 = t.addr := by
  ext i hi
  rw [BitVec.getElem_extractLsb', t.sel_getLsbD, if_neg (by omega), if_pos (by omega), Nat.add_sub_cancel_left,
    BitVec.getLsbD_eq_getElem hi]

theorem Txn.sel_extract_be (t : Txn) : t.sel.extractLsb' 0 4 = t.be := by
  ext i hi
  rw [BitVec.getElem_extractLsb', t.sel_getLsbD, Nat.zero_add, if_pos hi, BitVec.getLsbD_eq_getElem hi]

/-- A transaction is its selector and its data word. -/
theorem Txn.ofSel_sel (t : Txn) : Txn.ofSel t.sel t.wdata = t := by
  rw [Txn.ofSel, t.sel_getLsbD_ten, t.sel_extract_addr, t.sel_extract_be]

/-- The data word is no part of the selector. -/
theorem Txn.sel_ofSel (sel : BitVec 11) (d : Word) : (Txn.ofSel sel d).sel = sel := by
  apply BitVec.eq_of_getLsbD_eq
  intro i hi
  rw [Txn.sel_getLsbD]
  simp only [Txn.ofSel, BitVec.getLsbD_extractLsb', BitVec.getLsbD_ofBool]
  split
  case isTrue hbe => simp [hbe]
  case isFalse hbe =>
    split
    case isTrue haddr => simp [show i - 4 < 6 by omega, Nat.add_sub_cancel' (Nat.le_of_not_lt hbe)]
    case isFalse hwe =>
      obtain rfl : i = 10 := by omega
      simp

end Sys2Proof
end

section
/-! SUPPORT. Full-word accesses to a register, whatever their data word (R83), and the legal command words (R84, R85). -/

namespace Sys2Proof

/-- A read row of R83's table does not depend on the data word. -/
theorem decodeOffset_read (r : Reg) (d : Word) : decodeOffset false r.offset d = .ok (readInstr r) := by
  cases r <;> rfl

/-- Every register's offset is word-aligned: R82 step 2 passes it. -/
theorem Reg.offset_aligned (r : Reg) : r.offset.getLsbD 0 = false ∧ r.offset.getLsbD 1 = false := by
  cases r <;> decide

/-- A full-word read of a register is decoded as that read, whatever its data word is: R91's "ignored". -/
theorem decodeTxn_fullRead (r : Reg) (d : Word) :
    decodeTxn { we := false, addr := r.offset, be := 0xF#4, wdata := d } = .ok (readInstr r) := by
  obtain ⟨h0, h1⟩ := r.offset_aligned
  simp [decodeTxn, -BitVec.getLsbD_eq_getElem, h0, h1, decodeOffset_read]

theorem legalCmdWord_iff (c : Word) :
    legalCmdWord c = true ↔ c = 0x00000000#32 ∨ c = 0x00000001#32 ∨ c = 0x00000002#32 := by
  simp [legalCmdWord, or_assoc]

end Sys2Proof

namespace Sys2Proof.Machine

/-- The legal words by their fields: RSV is 0 and OP is 0, 1 or 2 (R84). -/
theorem legalCmdWord_iff_fields (c : Word) :
    (c.extractLsb' 4 28 = 0#28 ∧ (c.extractLsb' 0 4 = 0x0#4 ∨ c.extractLsb' 0 4 = 0x1#4 ∨ c.extractLsb' 0 4 = 0x2#4)) ↔
      legalCmdWord c = true := by
  rw [← not_iff_not, Bool.not_eq_true, ← illegal_iff, Decidable.not_and_iff_not_or_not]

/-- A word with RSV not 0 or OP of 3 or more is ILLEGAL_CMD (R85). -/
theorem decodeCmd_of_illegal_fields (c : Word) (h : c.extractLsb' 4 28 ≠ 0#28 ∨ 3 ≤ (c.extractLsb' 0 4).toNat) :
    decodeCmd c = .illegalCmd c := by
  refine decodeCmd_illegal c ((illegal_iff c).1 (h.imp_right fun hop => ?_))
  rintro (hw | hw | hw) <;> simp [hw] at hop

end Sys2Proof.Machine
end

section
/-! SUPPORT. A refused write's outcome, its whole state written out (R150, R201). -/

namespace Sys2Proof.Machine

/-- `flag_error` records the code of its error unless one was recorded (R201). -/
theorem Engine.flagError_eq_recorded (p : ProtocolError) (e : Engine) : e.flagError p = e.recorded p.code := by
  cases h : e.status.err with
  | true => simp [Engine.flagError_eq, Status.flagError_err p _ h, Engine.recorded, h]
  | false => simp [Engine.flagError_eq, Status.flagError_clear p _ h, Engine.recorded, h]

theorem acceptWrite_eq_afterWrite (e : Engine) (s : State) : acceptWrite e s = .next (s.afterWrite e) := rfl

theorem refuseWrite_eq_afterWrite (p : ProtocolError) (s : State) :
    refuseWrite p s = .next (s.afterWrite (s.engine.recorded p.code)) := by
  rw [refuseWrite, acceptWrite_eq_afterWrite, Engine.flagError_eq_recorded]

theorem exec_illegalCmd (c : Word) (s : State) :
    exec (.illegalCmd c) s = writeWhenIdle (Engine.flagError .illegalCmd) s := rfl

end Sys2Proof.Machine
end

section
/-! PROOFS. The family 30_encoding.md. -/

namespace Sys2Proof.Proofs.Encoding

open Sys2Proof Sys2Proof.Machine

/-- Settles O1: each selector is a full-word access to the register named, with its data word left free. -/
theorem registerTransactionsDecodeFromTheirSelectors : Obligations.RegisterTransactionsDecodeFromTheirSelectors :=
  fun d =>
    ⟨decodeTxn_fullRead .id d,
      decodeTxn_fullRead .cmd d, decodeTxn_wr .cmd d,
      decodeTxn_fullRead .status d, decodeTxn_wr .status d,
      decodeTxn_fullRead .cfg d, decodeTxn_wr .cfg d,
      decodeTxn_fullRead .rounds d, decodeTxn_wr .rounds d,
      decodeTxn_fullRead .key0 d, decodeTxn_wr .key0 d,
      decodeTxn_fullRead .key1 d, decodeTxn_wr .key1 d,
      decodeTxn_fullRead .key2 d, decodeTxn_wr .key2 d,
      decodeTxn_fullRead .key3 d, decodeTxn_wr .key3 d,
      decodeTxn_fullRead .data0 d, decodeTxn_wr .data0 d,
      decodeTxn_fullRead .data1 d, decodeTxn_wr .data1 d,
      decodeTxn_wr .id d⟩

/-- Settles O2, field by field, then the rebuild in both directions. -/
theorem selectorIsWeThenAddrThenBe : Obligations.SelectorIsWeThenAddrThenBe :=
  ⟨fun t => ⟨t.sel_getLsbD_ten, t.sel_extract_addr, t.sel_extract_be, t.ofSel_sel⟩,
    fun sel d => ⟨Txn.sel_ofSel sel d, rfl⟩⟩

/-- Settles O3: the fields and the three words say the same as `legalCmdWord`. -/
theorem legalCommandWordsAreThree : Obligations.LegalCommandWordsAreThree :=
  ⟨rfl, rfl, rfl, fun c => ⟨(legalCmdWord_iff_fields c).trans (legalCmdWord_iff c), legalCmdWord_iff c⟩⟩

/-- Settles O21: ILLEGAL_CMD is a write that, idle or busy, only records its code. -/
theorem illegalCommandIsIgnoredAndRecorded : Obligations.IllegalCommandIsIgnoredAndRecorded := by
  intro c s
  refine ⟨decodeCmd_of_illegal_fields c, fun hidle => ?_, fun hbusy => ?_⟩
  · rw [exec_illegalCmd, writeWhenIdle_idle _ s hidle]
    exact refuseWrite_eq_afterWrite .illegalCmd s
  · rw [exec_illegalCmd, writeWhenIdle_busy _ s hbusy]
    exact refuseWrite_eq_afterWrite .writeWhileBusy s

end Sys2Proof.Proofs.Encoding
end

section
/-! SUPPORT. The key word a sum selects (40_transform.md R102). -/

namespace Sys2Proof.Machine

theorem Key.get_eq_getD (k : Key) (i : BitVec 2) : k.get i = [k.k0, k.k1, k.k2, k.k3].getD i.toNat 0#32 := by
  have hcases : ∀ j : BitVec 2, j = 0#2 ∨ j = 1#2 ∨ j = 2#2 ∨ j = 3#2 := by decide
  obtain rfl | rfl | rfl | rfl := hcases i <;> rfl

/-- The index is the two low bits of a word. -/
theorem keyIndex_toNat (x : Word) : ((x &&& 3#32).setWidth 2).toNat = x.toNat % 4 := by
  have hmask : x.toNat &&& 3 = x.toNat % 4 := Nat.and_two_pow_sub_one_eq_mod x.toNat 2
  rw [BitVec.toNat_setWidth, BitVec.toNat_and, BitVec.toNat_ofNat, Nat.mod_eq_of_lt (by decide : 3 < 2 ^ 32), hmask,
    Nat.mod_mod]

theorem Key.ka_eq_getD (k : Key) (s : Word) : k.ka s = [k.k0, k.k1, k.k2, k.k3].getD (s.toNat % 4) 0#32 := by
  rw [Key.ka, k.get_eq_getD, keyIndex_toNat]

theorem Key.kb_eq_getD (k : Key) (s : Word) :
    k.kb s = [k.k0, k.k1, k.k2, k.k3].getD (s.toNat / 2 ^ 11 % 4) 0#32 := by
  rw [Key.kb, k.get_eq_getD, keyIndex_toNat, BitVec.toNat_ushiftRight, Nat.shiftRight_eq_div_pow]

@[simp] theorem Key.ka_zero (k : Key) : k.ka 0#32 = k.k0 := rfl

@[simp] theorem Key.kb_delta (k : Key) : k.kb delta = k.k3 := rfl

end Sys2Proof.Machine
end

section
/-! SUPPORT. One round: its three statements (R103, R106), what it reads of the key, and the inverse law (R106). -/

namespace Sys2Proof.Machine

theorem mixF_toNat (x : Word) : (mixF x).toNat = (((x.toNat * 16) % 2 ^ 32 ^^^ x.toNat / 32) + x.toNat) % 2 ^ 32 := by
  rw [mixF, BitVec.toNat_add, BitVec.toNat_xor, BitVec.toNat_shiftLeft, BitVec.toNat_ushiftRight, Nat.shiftLeft_eq,
    Nat.shiftRight_eq_div_pow]

theorem RoundState.eq_of_fields {r t : RoundState} (h0 : r.v0 = t.v0) (h1 : r.v1 = t.v1) (hs : r.sum = t.sum) :
    r = t := by
  cases r
  cases t
  simp_all

theorem encRound_v0 (k : Key) (r : RoundState) :
    (encRound k r).v0 = r.v0 + (mixF r.v1 ^^^ (r.sum + k.ka r.sum)) := rfl

theorem encRound_v1 (k : Key) (r : RoundState) :
    (encRound k r).v1 = r.v1 + (mixF (encRound k r).v0 ^^^ ((r.sum + delta) + k.kb (r.sum + delta))) := rfl

theorem decRound_v1 (k : Key) (r : RoundState) :
    (decRound k r).v1 = r.v1 - (mixF r.v0 ^^^ (r.sum + k.kb r.sum)) := rfl

theorem decRound_v0 (k : Key) (r : RoundState) :
    (decRound k r).v0 = r.v0 - (mixF (decRound k r).v1 ^^^ ((r.sum - delta) + k.ka (r.sum - delta))) := rfl

/-- The key enters an encipher round only through the two words it selects. -/
theorem encRound_congr_key (k k' : Key) (r : RoundState) (ha : k.ka r.sum = k'.ka r.sum)
    (hb : k.kb (r.sum + delta) = k'.kb (r.sum + delta)) : encRound k r = encRound k' r := by
  have h0 : (encRound k r).v0 = (encRound k' r).v0 := by rw [encRound_v0, encRound_v0, ha]
  have h1 : (encRound k r).v1 = (encRound k' r).v1 := by rw [encRound_v1, encRound_v1, h0, hb]
  exact RoundState.eq_of_fields h0 h1 rfl

/-- Round 1 reads `key[0]` and `key[3]` (R105). -/
theorem encRound_first_congr_key (k k' : Key) (v0 v1 : Word) (h0 : k.k0 = k'.k0) (h3 : k.k3 = k'.k3) :
    encRound k ⟨v0, v1, 0#32⟩ = encRound k' ⟨v0, v1, 0#32⟩ :=
  encRound_congr_key k k' _ (by simpa using h0) (by simpa using h3)

/-- Each statement is undone by the same summand: `v1` first, from the new `v0` and sum, then `v0` from the old `v1` and sum. -/
theorem decRound_encRound (k : Key) (r : RoundState) : decRound k (encRound k r) = r := by
  have hs : (encRound k r).sum - delta = r.sum := BitVec.add_sub_cancel _ _
  have h1 : (decRound k (encRound k r)).v1 = r.v1 := by
    rw [decRound_v1, encRound_v1, encRound_sum, BitVec.add_sub_cancel]
  have h0 : (decRound k (encRound k r)).v0 = r.v0 := by
    rw [decRound_v0, h1, hs, encRound_v0, BitVec.add_sub_cancel]
  exact RoundState.eq_of_fields h0 h1 hs

theorem encRound_decRound (k : Key) (r : RoundState) : encRound k (decRound k r) = r := by
  have hs : (decRound k r).sum + delta = r.sum := BitVec.sub_add_cancel _ _
  have h0 : (encRound k (decRound k r)).v0 = r.v0 := by
    rw [encRound_v0, decRound_v0, decRound_sum, BitVec.sub_add_cancel]
  have h1 : (encRound k (decRound k r)).v1 = r.v1 := by
    rw [encRound_v1, h0, hs, decRound_v1, BitVec.sub_add_cancel]
  exact RoundState.eq_of_fields h0 h1 hs

end Sys2Proof.Machine
end

section
/-! SUPPORT. Any number of rounds: the sum they leave (R105), and that they undo each other (R108). -/

namespace Sys2Proof.Machine

theorem ofNat_succ_mul_delta (m : Nat) : BitVec.ofNat 32 (m + 1) * delta = BitVec.ofNat 32 m * delta + delta := by
  rw [BitVec.ofNat_add, BitVec.add_mul, BitVec.one_mul]

theorem encRounds_sum (k : Key) (m : Nat) (r : RoundState) :
    (encRounds k m r).sum = r.sum + BitVec.ofNat 32 m * delta := by
  induction m with
  | zero => simp
  | succ m ih => rw [encRounds, encRound_sum, ih, ofNat_succ_mul_delta, BitVec.add_assoc]

theorem decRounds_sum (k : Key) (m : Nat) (r : RoundState) :
    (decRounds k m r).sum = r.sum - BitVec.ofNat 32 m * delta := by
  induction m with
  | zero => simp
  | succ m ih => rw [decRounds, decRound_sum, ih, ofNat_succ_mul_delta, BitVec.sub_sub]

theorem encRounds_sum_from_zero (k : Key) (m : Nat) (v0 v1 : Word) :
    (encRounds k m ⟨v0, v1, 0#32⟩).sum = BitVec.ofNat 32 m * delta := by
  rw [encRounds_sum, BitVec.zero_add]

theorem decRounds_encRounds (k : Key) (m : Nat) (r : RoundState) : decRounds k m (encRounds k m r) = r := by
  induction m with
  | zero => rfl
  | succ m ih => rw [decRounds_succ_front, encRounds, decRound_encRound, ih]

theorem encRounds_decRounds (k : Key) (m : Nat) (r : RoundState) : encRounds k m (decRounds k m r) = r := by
  induction m with
  | zero => rfl
  | succ m ih => rw [encRounds_succ_front, decRounds, encRound_decRound, ih]

/-- Encipher's rounds leave its result with the sum that Decipher starts from. -/
theorem encRounds_eq_encipher (n : Word) (v : Block) (k : Key) :
    encRounds k n.toNat ⟨v.v0, v.v1, startSum .enc n⟩ =
      ⟨(encipher n v k).v0, (encipher n v k).v1, startSum .dec n⟩ := by
  refine RoundState.eq_of_fields rfl rfl ?_
  rw [encRounds_sum, BitVec.ofNat_toNat, BitVec.setWidth_eq]
  exact BitVec.zero_add _

/-- Decipher's rounds leave its result with the sum that Encipher starts from. -/
theorem decRounds_eq_decipher (n : Word) (v : Block) (k : Key) :
    decRounds k n.toNat ⟨v.v0, v.v1, startSum .dec n⟩ =
      ⟨(decipher n v k).v0, (decipher n v k).v1, startSum .enc n⟩ := by
  refine RoundState.eq_of_fields rfl rfl ?_
  rw [decRounds_sum, BitVec.ofNat_toNat, BitVec.setWidth_eq]
  exact BitVec.sub_self _

theorem decipher_encipher (n : Word) (v : Block) (k : Key) : decipher n (encipher n v k) k = v := by
  rw [decipher, ← encRounds_eq_encipher, decRounds_encRounds]
  rfl

theorem encipher_decipher (n : Word) (v : Block) (k : Key) : encipher n (decipher n v k) k = v := by
  rw [encipher, ← decRounds_eq_decipher, encRounds_decRounds]
  rfl

theorem encipher_one (v : Block) (k : Key) : encipher 1#32 v k = (encRound k ⟨v.v0, v.v1, 0#32⟩).block := rfl

end Sys2Proof.Machine
end

section
/-! PROOFS. The family 40_transform.md. -/

namespace Sys2Proof.Proofs.Transform

open Sys2Proof Sys2Proof.Machine

/-- Settles O31: the shifts are the product with 16 and the quotient by 32; the corner values are computed. -/
theorem mixingFunctionValues : Obligations.MixingFunctionValues :=
  ⟨mixF_toNat, by decide, by decide, by decide, by decide⟩

/-- Settles O32: both selections are the two low bits of a word, of the sum and of the sum shifted. -/
theorem keyWordSelection : Obligations.KeyWordSelection :=
  fun k s => ⟨k.ka_eq_getD s, k.kb_eq_getD s, k.kb_delta,
    fun v0 v1 => ⟨encRound_v0 k ⟨v0, v1, s⟩, encRound_v1 k ⟨v0, v1, s⟩⟩⟩

/-- Settles O33: the witnesses are the fields of the round. -/
theorem encRoundIsTheLoopBody : Obligations.EncRoundIsTheLoopBody :=
  ⟨fun k v0 v1 s =>
    ⟨_, _, _, encRound_v0 k ⟨v0, v1, s⟩, encRound_sum k ⟨v0, v1, s⟩, encRound_v1 k ⟨v0, v1, s⟩, rfl⟩, by decide⟩

/-- Settles O34: the three statements, and one inverse lemma for each direction. -/
theorem decRoundInvertsEncRound : Obligations.DecRoundInvertsEncRound :=
  ⟨fun k v0 v1 s =>
      ⟨_, _, _, decRound_v1 k ⟨v0, v1, s⟩, decRound_sum k ⟨v0, v1, s⟩, decRound_v0 k ⟨v0, v1, s⟩, rfl⟩,
    fun k r => ⟨decRound_encRound k r, encRound_decRound k r⟩, by decide⟩

/-- Settles O35: the sums are multiples of DELTA whatever the key and the block, so the key words of both tables are read at
known indices. -/
theorem sumAfterRoundsFixesTheKeySchedule : Obligations.SumAfterRoundsFixesTheKeySchedule := by
  refine ⟨encRounds_sum_from_zero, fun k v0 v1 => ?_, fun k v0 v1 => ?_, encRound_first_congr_key⟩
  · rw [encRounds_sum_from_zero]
    decide
  · simp only [encRounds_sum_from_zero]
    exact ⟨rfl, rfl⟩

/-- Settles O36: the rounds undo each other, and each side ends with the sum the other starts from. -/
theorem decipherInvertsEncipher : Obligations.DecipherInvertsEncipher :=
  fun n v k => ⟨decipher_encipher n v k, encipher_decipher n v k⟩

/-- Settles O38: no round reads no key word, and round 1 reads only `key[0]` and `key[3]`. -/
theorem fewRoundsIgnoreKeyWords : Obligations.FewRoundsIgnoreKeyWords := by
  refine fun v k k' => ⟨rfl, fun h0 h3 => ?_⟩
  rw [encipher_one, encipher_one, encRound_first_congr_key k k' _ _ h0 h3]

end Sys2Proof.Proofs.Transform
end

section
/-! SUPPORT. What a write the register protocol guards does, by the guard that decides it (R130, R138, R202), and WR CMD as the
command of its word (R154). -/

namespace Sys2Proof.Machine

@[simp] theorem exec_nop (s : State) : exec .nop s = writeWhenIdle (fun e => e) s := rfl

@[simp] theorem exec_enc (s : State) : exec .enc s = writeWhenIdle (Engine.accept .enc) s := rfl

@[simp] theorem exec_dec (s : State) : exec .dec s = writeWhenIdle (Engine.accept .dec) s := rfl

@[simp] theorem exec_wrRounds (d : Word) (s : State) :
    exec (.wrRounds d) s = writeWhenIdle (fun e => e.setRounds d) s := rfl

@[simp] theorem exec_wrData0 (d : Word) (s : State) : exec (.wrData0 d) s = writeWhenIdle (fun e => e.setData0 d) s := rfl

@[simp] theorem exec_wrData1 (d : Word) (s : State) : exec (.wrData1 d) s = writeWhenIdle (fun e => e.setData1 d) s := rfl

@[simp] theorem exec_wrKey0 (d : Word) (s : State) :
    exec (.wrKey0 d) s = writeKeyWhenUnlocked (fun k => { k with k0 := d }) s := rfl

@[simp] theorem exec_wrKey1 (d : Word) (s : State) :
    exec (.wrKey1 d) s = writeKeyWhenUnlocked (fun k => { k with k1 := d }) s := rfl

@[simp] theorem exec_wrKey2 (d : Word) (s : State) :
    exec (.wrKey2 d) s = writeKeyWhenUnlocked (fun k => { k with k2 := d }) s := rfl

@[simp] theorem exec_wrKey3 (d : Word) (s : State) :
    exec (.wrKey3 d) s = writeKeyWhenUnlocked (fun k => { k with k3 := d }) s := rfl

/-- While busy, every write to a protected register and every command is refused with code 2 (R239, R202). -/
theorem exec_protected_busy (i : Instr) (s : State) (hi : writesProtected i = true) (hb : s.engine.status.busy = true) :
    exec i s = .next (s.afterWrite (s.engine.recorded 2#4)) := by
  refine Eq.trans ?_ (refuseWrite_eq_afterWrite .writeWhileBusy s)
  cases i with
  | wrCmd c => exact if_pos hb
  | nop | enc | dec | illegalCmd | wrRounds | wrData0 | wrData1 => simp [exec_illegalCmd, writeWhenIdle_busy, hb]
  | wrKey0 | wrKey1 | wrKey2 | wrKey3 => simp [writeKeyWhenUnlocked_busy, hb]
  | _ => cases hi

/-- An idle engine with KEY_LOCK set refuses every key write with code 3 (R202). -/
theorem exec_key_locked (i : Instr) (s : State) (hi : writesKey i = true) (hb : s.engine.status.busy = false)
    (hl : s.engine.cfg.keyLock = true) : exec i s = .next (s.afterWrite (s.engine.recorded 3#4)) := by
  refine Eq.trans ?_ (refuseWrite_eq_afterWrite .keyLocked s)
  cases i with
  | wrKey0 | wrKey1 | wrKey2 | wrKey3 => simp [writeKeyWhenUnlocked_locked, hb, hl]
  | _ => cases hi

theorem exec_nop_idle (s : State) (hb : s.engine.status.busy = false) :
    exec .nop s = .next (s.afterWrite s.engine) :=
  writeWhenIdle_idle (fun e => e) s hb

/-- The acceptance of ENC: its sum starts at 0 (R132). -/
theorem exec_enc_idle (s : State) (hb : s.engine.status.busy = false) :
    exec .enc s = .next (s.afterWrite (s.engine.started .enc 0#32)) :=
  writeWhenIdle_idle (Engine.accept .enc) s hb

/-- The acceptance of DEC: its sum starts at `ROUNDS * DELTA` (R133). -/
theorem exec_dec_idle (s : State) (hb : s.engine.status.busy = false) :
    exec .dec s = .next (s.afterWrite (s.engine.started .dec (s.engine.rounds * delta))) :=
  writeWhenIdle_idle (Engine.accept .dec) s hb

theorem exec_illegalCmd_idle (c : Word) (s : State) (hb : s.engine.status.busy = false) :
    exec (.illegalCmd c) s = .next (s.afterWrite (s.engine.recorded 1#4)) := by
  rw [exec_illegalCmd, writeWhenIdle_idle _ s hb]
  exact refuseWrite_eq_afterWrite .illegalCmd s

theorem exec_wrCmd_illegal_idle (c : Word) (s : State) (hb : s.engine.status.busy = false)
    (hc : legalCmdWord c = false) : exec (.wrCmd c) s = .next (s.afterWrite (s.engine.recorded 1#4)) := by
  refine Eq.trans ?_ (refuseWrite_eq_afterWrite .illegalCmd s)
  exact (if_neg (by simp [hb])).trans (if_pos ((illegal_iff c).2 hc))

/-- WR CMD runs the command that its word stands for: R130's order of tests and R84's decoder agree. -/
theorem exec_wrCmd_eq_exec_decodeCmd (c : Word) (s : State) : exec (.wrCmd c) s = exec (decodeCmd c) s := by
  have hprot : writesProtected (decodeCmd c) = true := by
    unfold decodeCmd
    split_ifs <;> rfl
  cases hb : s.engine.status.busy with
  | true => rw [exec_protected_busy _ s rfl hb, exec_protected_busy _ s hprot hb]
  | false =>
    cases hc : legalCmdWord c with
    | false => rw [decodeCmd_illegal c hc, exec_wrCmd_illegal_idle c s hb hc, exec_illegalCmd_idle c s hb]
    | true =>
      obtain rfl | rfl | rfl := (legalCmdWord_iff c).1 hc <;> simp [exec, execWrCmd, hb, decodeCmd]

end Sys2Proof.Machine
end

section
/-! SUPPORT. WR STATUS and WR CFG, which are taken busy or idle (R156, R158), and `irq` after a completion (R135, R208). -/

namespace Sys2Proof.Machine

theorem exec_wrStatus (d : Word) (s : State) :
    exec (.wrStatus d) s = .next (s.afterWrite (s.engine.setStatus (s.engine.status.write d))) := rfl

theorem exec_wrCfg (d : Word) (s : State) :
    exec (.wrCfg d) s = .next (s.afterWrite (s.engine.setCfg (s.engine.cfg.write d))) := rfl

/-- Write-one-to-clear as a mask (R156). -/
theorem Status.write_eq_mask (d : Word) (st : Status) :
    st.write d =
      { busy := st.busy, done := st.done && !d.getLsbD 1, err := st.err && !d.getLsbD 2
        errCode := if d.getLsbD 2 = true then 0#4 else st.errCode } := by
  unfold Status.write
  cases d.getLsbD 1 <;> cases d.getLsbD 2 <;> simp

/-- Clearing DONE when it is 0 changes no field (R138). -/
theorem Status.write_clearDone_of_clear (st : Status) (h : st.done = false) : st.write 0x00000002#32 = st := by
  cases st
  cases h
  rfl

/-- KEY_LOCK is set by writing 1 to bit 2 (R158, R88). -/
theorem Cfg.write_sets_keyLock (d : Word) (c : Cfg) (h : d.getLsbD 2 = true) : (c.write d).keyLock = true :=
  Bool.or_eq_true_iff.2 (.inr h)

/-- After a completion DONE is 1, so `irq` is 1 with DONE_IE, whatever ERR is (R135, R208). -/
theorem Engine.completionStep_irq (e : Engine) :
    e.completionStep.irq = (e.cfg.doneIe || (e.cfg.errIe && e.status.err)) := by
  simp [Engine.completionStep, Engine.irq]

end Sys2Proof.Machine
end

section
/-! PROOFS. The family 41_commands.md. -/

namespace Sys2Proof.Proofs.Commands

open Sys2Proof Sys2Proof.Machine

/-- Settles O49: the busy guard refuses the protected writes; STATUS and CFG have no guard; and the completion step keeps the
KEY_LOCK that was set, so that the lock's guard decides after it. -/
theorem writesWhileBusyLeaveTheOperationAlone : Obligations.WritesWhileBusyLeaveTheOperationAlone := by
  intro s d hbusy
  refine ⟨fun i hi => ?_, ?_, exec_wrCfg d s, fun hdone => ?_, fun hlock => ?_⟩
  · have hprot : writesProtected i = true := by
      revert i
      simp [writesProtected]
    exact exec_protected_busy i s hprot hbusy
  · rw [exec_wrStatus, Status.write_eq_mask, hbusy]
    rfl
  · rw [exec_wrStatus, Status.write_clearDone_of_clear _ hdone]
    rfl
  · have hset : (s.engine.cfg.write d).keyLock = true := Cfg.write_sets_keyLock d _ hlock
    refine ⟨_, exec_wrCfg d s, hset, fun w i hi => ?_⟩
    have hkey : writesKey i = true := by
      revert i
      simp [writesKey]
    exact exec_key_locked i _ hkey rfl hset

/-- Settles O19: WR CMD is the command its word stands for, and each command's outcome is known. -/
theorem wrCmdDispatches : Obligations.WrCmdDispatches := by
  intro c s
  refine ⟨exec_protected_busy (.wrCmd c) s rfl, fun hidle => ⟨fun hill => ?_, ?_, ?_, ?_⟩⟩
  · exact exec_wrCmd_illegal_idle c s hidle ((illegal_iff c).1 (by simpa using hill))
  · rintro rfl
    exact (exec_wrCmd_eq_exec_decodeCmd _ s).trans (exec_nop_idle s hidle)
  · rintro rfl
    exact (exec_wrCmd_eq_exec_decodeCmd _ s).trans (exec_enc_idle s hidle)
  · rintro rfl
    exact (exec_wrCmd_eq_exec_decodeCmd _ s).trans (exec_dec_idle s hidle)

/-- Settles O20: NOP is the write that leaves an idle engine as it is. -/
theorem nopChangesNothing : Obligations.NopChangesNothing :=
  ⟨rfl, fun s => ⟨exec_nop_idle s, exec_protected_busy .nop s rfl⟩⟩

/-- Settles O23: with `cnt < n` the agent's step is the round step, whose round is chosen by `op`. -/
theorem roundStepTakesOneRound : Obligations.RoundStepTakesOneRound := by
  intro e r hbusy hcnt henc hdec
  have hr : r = roundOf e.op e.key e.work := by
    cases hop : e.op with
    | enc => exact henc hop
    | dec => exact hdec hop
  rw [Engine.agentStep_round e hbusy hcnt, hr]
  rfl

/-- Settles O24: with `cnt = n` the agent's step is the completion step, which sets DONE. -/
theorem completionStepWritesTheResult : Obligations.CompletionStepWritesTheResult := by
  intro e hbusy hcnt
  rw [Engine.agentStep_complete e hbusy hcnt]
  refine ⟨rfl, fun hie => ?_⟩
  rw [Engine.completionStep_irq, hie, Bool.true_or]

end Sys2Proof.Proofs.Commands
end

section
/-! SUPPORT. What a register read answers (R150), and where the fields of STATUS and CFG stand in the word read (R155, R157). -/

namespace Sys2Proof.Machine

/-- Every register read answers the register's read value and changes nothing but the response. -/
theorem exec_readInstr (r : Reg) (s : State) : exec (readInstr r) s = .next (s.afterRead (s.engine.read r)) := by
  cases r <;> rfl

/-- The layout of STATUS, bit by bit: above bit 3 stands ERR_CODE, with zeros beyond its four bits. -/
theorem Status.word_getLsbD (st : Status) (i : Nat) :
    st.word.getLsbD i =
      if i = 0 then st.busy else if i = 1 then st.done else if i = 2 then st.err else if i = 3 then false
      else st.errCode.getLsbD (i - 4) := by
  rw [Status.word, BitVec.getLsbD_setWidth]
  simp only [BitVec.getLsbD_append, BitVec.getLsbD_ofBool]
  match i with
  | 0 | 1 | 2 | 3 => simp
  | j + 4 =>
    have hcode : st.errCode.getLsbD j = true → j + 4 < 32 := fun h =>
      Nat.lt_trans (Nat.add_lt_add_right (BitVec.lt_of_getLsbD h) 4) (by decide)
    simpa using hcode

theorem Status.word_extract_errCode (st : Status) : st.word.extractLsb' 4 4 = st.errCode := by
  ext i hi
  rw [BitVec.getElem_extractLsb', st.word_getLsbD]
  simp [show 4 + i ≠ 0 ∧ 4 + i ≠ 1 ∧ 4 + i ≠ 2 ∧ 4 + i ≠ 3 by omega, hi]

theorem Status.word_extract_reserved (st : Status) : st.word.extractLsb' 8 24 = 0#24 := by
  ext i hi
  simp [Status.word]

/-- With BUSY = 1 and DONE = 0 the word is 1 but for the error fields at bits 2 and 7:4. -/
theorem Status.word_busy_masked (st : Status) (hb : st.busy = true) (hd : st.done = false) :
    st.word &&& 0xFFFFFF0B#32 = 0x00000001#32 := by
  obtain ⟨busy, done, err, code⟩ := st
  subst hb hd
  revert err code
  decide

/-- The layout of CFG, bit by bit. -/
theorem Cfg.word_getLsbD (c : Cfg) (i : Nat) :
    c.word.getLsbD i = if i = 0 then c.doneIe else if i = 1 then c.errIe else if i = 2 then c.keyLock else false := by
  rw [Cfg.word, BitVec.getLsbD_setWidth]
  simp only [BitVec.getLsbD_append, BitVec.getLsbD_ofBool]
  match i with
  | 0 | 1 | 2 | j + 3 => simp

theorem Cfg.word_extract_reserved (c : Cfg) : c.word.extractLsb' 3 29 = 0#29 := by
  ext i hi
  rw [BitVec.getElem_extractLsb', c.word_getLsbD]
  simp [show 3 + i ≠ 0 ∧ 3 + i ≠ 1 ∧ 3 + i ≠ 2 by omega]

/-- A write of ones sets every stored field, so the reserved bits of the word do not come back (R157, R158). -/
theorem Cfg.write_ones_word (c : Cfg) : (c.write 0xFFFFFFFF#32).word = 0x00000007#32 := by
  have hset : c.write 0xFFFFFFFF#32 = { doneIe := true, errIe := true, keyLock := true } := by
    simp [Cfg.write]
  rw [hset]
  rfl

end Sys2Proof.Machine
end

section
/-! SUPPORT. `irq` after a write to STATUS (R156, R208), the acceptance of a command in an idle state whichever it is
(R132, R133), and an idle and unlocked engine's key writes (R162 to R168). -/

namespace Sys2Proof.Machine

/-- After WR STATUS a cause of `irq` is left where its enable and its bit were set and the bit was not cleared. -/
theorem Engine.irq_setStatus_write (d : Word) (e : Engine) :
    (e.setStatus (e.status.write d)).irq =
      ((e.cfg.doneIe && e.status.done && !d.getLsbD 1) || (e.cfg.errIe && e.status.err && !d.getLsbD 2)) := by
  rw [Status.write_eq_mask, Engine.irq]
  simp only [Engine.setStatus_cfg, Engine.setStatus_status, Bool.and_assoc]

/-- In an idle state each of ENC and DEC is accepted. -/
theorem exec_accepts_idle (j : Instr) (s : State) (hj : j ∈ [Instr.enc, Instr.dec]) (hb : s.engine.status.busy = false) :
    ∃ op sum, exec j s = .next (s.afterWrite (s.engine.started op sum)) := by
  obtain rfl | rfl : j = .enc ∨ j = .dec := by simpa using hj
  · exact ⟨_, _, exec_enc_idle s hb⟩
  · exact ⟨_, _, exec_dec_idle s hb⟩

/-- An idle and unlocked engine takes every key write, which changes the key alone. -/
theorem exec_key_unlocked (i : Instr) (s : State) (hi : writesKey i = true) (hb : s.engine.status.busy = false)
    (hl : s.engine.cfg.keyLock = false) : ∃ k, exec i s = .next (s.afterWrite (s.engine.setKey k)) := by
  have hwrite : ∃ f, exec i s = writeKeyWhenUnlocked f s := by
    cases i with
    | wrKey0 d => exact ⟨_, exec_wrKey0 d s⟩
    | wrKey1 d => exact ⟨_, exec_wrKey1 d s⟩
    | wrKey2 d => exact ⟨_, exec_wrKey2 d s⟩
    | wrKey3 d => exact ⟨_, exec_wrKey3 d s⟩
    | _ => cases hi
  obtain ⟨f, hf⟩ := hwrite
  exact ⟨_, hf.trans (writeKeyWhenUnlocked_unlocked f s hb hl)⟩

end Sys2Proof.Machine
end

section
/-! PROOFS. The family 42_register_access.md. -/

namespace Sys2Proof.Proofs.RegisterAccess

open Sys2Proof Sys2Proof.Machine

/-- Settles O11: each read answers what `Engine.read` gives for its register. -/
theorem readsReturnTheirRegister : Obligations.ReadsReturnTheirRegister :=
  fun s =>
    ⟨exec_readInstr .id s, exec_readInstr .cmd s, exec_readInstr .rounds s,
      exec_readInstr .key0 s, exec_readInstr .key1 s, exec_readInstr .key2 s, exec_readInstr .key3 s,
      exec_readInstr .data0 s, exec_readInstr .data1 s⟩

/-- Settles O12: the word of STATUS field by field; the invariant gives DONE = 0 while busy, and an acceptance leaves
BUSY = 1 and DONE = 0. -/
theorem rdStatusPlacesItsFields : Obligations.RdStatusPlacesItsFields := by
  intro s
  refine ⟨⟨_, exec_readInstr .status s, Status.word_getLsbD _ 0, Status.word_getLsbD _ 1, Status.word_getLsbD _ 2,
    Status.word_getLsbD _ 3, Status.word_extract_errCode _, Status.word_extract_reserved _, fun hinv hbusy => ?_⟩,
    fun hidle i hi => ?_⟩
  · exact Status.word_busy_masked _ hbusy (hinv.busy_not_done hbusy)
  · obtain ⟨op, sum, hexec⟩ := exec_accepts_idle i s hi hidle
    exact ⟨_, _, hexec, exec_readInstr .status _, Status.word_getLsbD _ 0, Status.word_getLsbD _ 1⟩

/-- Settles O13: the word of CFG field by field, and what a write of ones leaves in it. -/
theorem rdCfgPlacesItsFields : Obligations.RdCfgPlacesItsFields := by
  intro s
  refine ⟨⟨_, exec_readInstr .cfg s, Cfg.word_getLsbD _ 0, Cfg.word_getLsbD _ 1, Cfg.word_getLsbD _ 2,
    Cfg.word_extract_reserved _⟩, _, exec_wrCfg _ s, ?_⟩
  rw [← s.engine.cfg.write_ones_word]
  exact exec_readInstr .cfg _

/-- Settles O14: write-one-to-clear is a mask, and with the cleared cause masked out the other one decides `irq`. -/
theorem wrStatusClearsByWritingOne : Obligations.WrStatusClearsByWritingOne := by
  intro d s
  refine ⟨_, exec_wrStatus d s, ?_, fun hdone herr => ?_, fun herr hdone => ?_⟩
  · rw [Status.write_eq_mask]
    rfl
  · rw [Engine.irq_setStatus_write, hdone, herr, Bool.not_true, Bool.and_false, Bool.false_and, Bool.false_or]
  · rw [Engine.irq_setStatus_write, herr, hdone, Bool.not_true, Bool.and_false, Bool.false_and, Bool.false_or]

/-- Settles O15: WR CFG has no guard, and `irq` is a function of the CFG it leaves. -/
theorem wrCfgWritesEnablesAndSetsLock : Obligations.WrCfgWritesEnablesAndSetsLock :=
  fun d s => ⟨_, exec_wrCfg d s, rfl, rfl⟩

/-- Settles O17: the guards in their order, busy before locked; a key write leaves the engine idle, so that the next command
is accepted and keeps the key. -/
theorem wrKeyStoresWhenIdleAndUnlocked : Obligations.WrKeyStoresWhenIdleAndUnlocked := by
  intro d s
  refine ⟨fun hidle hunlocked => ?_, fun i hi => ?_⟩
  · exact ⟨(exec_wrKey0 d s).trans (writeKeyWhenUnlocked_unlocked _ s hidle hunlocked),
      (exec_wrKey1 d s).trans (writeKeyWhenUnlocked_unlocked _ s hidle hunlocked),
      (exec_wrKey2 d s).trans (writeKeyWhenUnlocked_unlocked _ s hidle hunlocked),
      (exec_wrKey3 d s).trans (writeKeyWhenUnlocked_unlocked _ s hidle hunlocked)⟩
  · obtain ⟨hkey, hprot⟩ : writesKey i = true ∧ writesProtected i = true := by
      revert i
      simp [writesKey, writesProtected]
    refine ⟨exec_protected_busy i s hprot, exec_key_locked i s hkey, fun hidle hunlocked j hj => ?_⟩
    obtain ⟨k, hwrite⟩ := exec_key_unlocked i s hkey hidle hunlocked
    obtain ⟨op, sum, haccept⟩ := exec_accepts_idle j (s.afterWrite (s.engine.setKey k)) hj hidle
    exact ⟨_, _, hwrite, haccept, rfl, rfl⟩

/-- Settles O18: the busy guard decides between the store and the refusal. -/
theorem wrDataStoresWhenIdle : Obligations.WrDataStoresWhenIdle :=
  fun d s =>
    ⟨fun hidle => ⟨(exec_wrData0 d s).trans (writeWhenIdle_idle _ s hidle),
        (exec_wrData1 d s).trans (writeWhenIdle_idle _ s hidle)⟩,
      fun hbusy => ⟨exec_protected_busy (.wrData0 d) s rfl hbusy, exec_protected_busy (.wrData1 d) s rfl hbusy⟩⟩

end Sys2Proof.Proofs.RegisterAccess
end

section
/-! SUPPORT. ERR and DONE beside each other: a second error (R201), both bits at once (R207); and `irq` after a write to CFG
and after an acceptance (R208). -/

namespace Sys2Proof.Machine

/-- Where an error is recorded, `flag_error` changes nothing in the whole engine (R201). -/
theorem Engine.flagError_err (p : ProtocolError) (e : Engine) (h : e.status.err = true) : e.flagError p = e := by
  rw [Engine.flagError_eq, Status.flagError_err p _ h]

/-- The status invariant speaks of DONE only while busy, so that an idle engine with a recorded error may have it either way. -/
theorem Engine.statusInv_of_idle_err (e : Engine) (p : ProtocolError) (hb : e.status.busy = false)
    (he : e.status.err = true) (hc : e.status.errCode = p.code) : e.StatusInv where
  busy_not_done := fun h => absurd h (by simp [hb])
  no_err_no_code := fun h => absurd h (by simp [he])
  err_code_range := fun _ => by cases p <;> simp [hc, ProtocolError.code]
  cnt_le_n := fun h => absurd h (by simp [hb])

theorem Engine.irq_iff (e : Engine) :
    e.irq = true ↔
      (e.cfg.doneIe = true ∧ e.status.done = true) ∨ (e.cfg.errIe = true ∧ e.status.err = true) := by
  rw [Engine.irq, Bool.or_eq_true, Bool.and_eq_true, Bool.and_eq_true]

/-- After WR CFG the enables of `irq` are the bits written. -/
theorem Engine.irq_setCfg_write (d : Word) (e : Engine) :
    (e.setCfg (e.cfg.write d)).irq = ((d.getLsbD 0 && e.status.done) || (d.getLsbD 1 && e.status.err)) := rfl

/-- An acceptance clears DONE and with it that source of `irq` (R132, R133); the ERR source stays. -/
theorem Engine.accept_irq (op : Op) (e : Engine) : (e.accept op).irq = (e.cfg.errIe && e.status.err) := by
  simp [Engine.accept, Engine.irq]

end Sys2Proof.Machine
end

section
/-! PROOFS. The family 60_exceptions.md. -/

namespace Sys2Proof.Proofs.Exceptions

open Sys2Proof Sys2Proof.Machine

/-- Settles O26: `flag_error` is the record written out, and after it ERR is 1, so that a second one is lost. -/
theorem flagErrorKeepsTheFirst : Obligations.FlagErrorKeepsTheFirst :=
  ⟨rfl, rfl, rfl, fun p q e => ⟨Engine.flagError_eq_recorded p e, Engine.flagError_flagError p q e⟩⟩

/-- Settles O29: the completion step writes neither error field, and `flag_error` does not write DONE; the engine with both
bits 1 is the reset engine after a completion step and then the report of an illegal command. -/
theorem doneAndErrAreIndependent : Obligations.DoneAndErrAreIndependent :=
  fun e p =>
    ⟨rfl, rfl, rfl, Status.flagError_done p e.status, Status.flagError_sets_err p e.status, Engine.flagError_err p e,
      Engine.reset.completionStep.flagError .illegalCmd, rfl, rfl,
      Engine.statusInv_of_idle_err _ .illegalCmd rfl rfl rfl⟩

/-- Settles O30: `irq` after each operation as a formula, at the words of the statement. -/
theorem irqFollowsItsTwoSources : Obligations.IrqFollowsItsTwoSources := by
  refine ⟨rfl, fun e => ⟨e.irq_iff, ?_, ?_, ?_, fun op => e.accept_irq op⟩⟩
  · rw [Engine.irq_setStatus_write]
    simp
  · rw [Engine.irq_setStatus_write]
    simp
  · rw [Engine.irq_setCfg_write]
    simp

end Sys2Proof.Proofs.Exceptions
end

section
/-! SUPPORT. What the registers read in the reset state (70_reset_and_hazards.md R231), and a transaction presented while
`rst_n` = 0 (R233). -/

namespace Sys2Proof.Machine

/-- After reset only ID and ROUNDS read anything but 0. -/
theorem Engine.reset_read (r : Reg) :
    Engine.reset.read r = match r with
      | .id => 0x58544541#32
      | .rounds => 0x00000020#32
      | .cmd | .status | .cfg | .key0 | .key1 | .key2 | .key3 | .data0 | .data1 => 0x00000000#32 := by
  cases r <;> rfl

/-- The answer of a register read right after reset. -/
theorem exec_readInstr_reset (r : Reg) (v : Word) (hv : Engine.reset.read r = v) :
    exec (readInstr r) State.reset = .next (State.reset.afterRead v) :=
  hv ▸ exec_readInstr r State.reset

/-- With both enables 0 `irq` is 0, whatever STATUS is (R208). -/
theorem Engine.irq_of_disabled (e : Engine) (hd : e.cfg.doneIe = false) (he : e.cfg.errIe = false) : e.irq = false := by
  simp [Engine.irq, hd, he]

/-- The level of `rst_n` is looked at before the decoder. -/
theorem hostStep_in_reset (m : Nat) (t : Txn) (s : State) (h : s.rstN = false) :
    hostStep m t s = .refused .transactionInReset := by
  simp [hostStep, h]

/-- A step whose next move is a host's transaction is that host's move. -/
theorem step_txn (s : State) (m : Nat) (t : Txn) (rest : List Event) (h : s.agenda = .txn m t :: rest) :
    step s = hostStep m t (s.setAgenda rest) :=
  step_cons s (.txn m t) rest h

end Sys2Proof.Machine
end

section
/-! PROOFS. The family 70_reset_and_hazards.md. -/

namespace Sys2Proof.Proofs.ResetAndHazards

open Sys2Proof Sys2Proof.Machine

/-- Settles O39: the fields are those of `Engine.reset`, the four reads answer what it reads there, and both enables of
`irq` are 0. -/
theorem resetStateIsAsStated : Obligations.ResetStateIsAsStated :=
  ⟨rfl, exec_readInstr_reset .id _ (Engine.reset_read .id), exec_readInstr_reset .status _ (Engine.reset_read .status),
    exec_readInstr_reset .cfg _ (Engine.reset_read .cfg), exec_readInstr_reset .rounds _ (Engine.reset_read .rounds),
    Engine.irq_of_disabled _ rfl rfl⟩

/-- Settles O41: the host's move is refused at the level of `rst_n`, and the step is that move with its entry taken off the
agenda, which leaves the level as it is. -/
theorem transactionInResetIsRefused : Obligations.TransactionInResetIsRefused := by
  intro s m t hreset
  refine ⟨hostStep_in_reset m t s hreset, fun rest hagenda => ?_⟩
  calc step s = hostStep m t (s.setAgenda rest) := step_txn s m t rest hagenda
    _ = .refused .transactionInReset := hostStep_in_reset m t (s.setAgenda rest) hreset

end Sys2Proof.Proofs.ResetAndHazards
end

section
/-! SUPPORT. Which instruction each transaction is: by the first check of R82 that it fails, else by its register (R83). -/

namespace Sys2Proof

/-- Decode undoes encode, by the round trip of each row. -/
theorem decode_encode (i : Instr) (h : i.wellFormed = true) : decode (encode i) = .ok i := by
  cases i with
  | buserrPartialBe0 w a b d => exact Laws.RoundTrip.buserrPartialBe0 w a b d h
  | buserrPartialBe1 w a b d => exact Laws.RoundTrip.buserrPartialBe1 w a b d h
  | buserrPartialBe2 w a b d => exact Laws.RoundTrip.buserrPartialBe2 w a b d h
  | buserrPartialBe3 w a b d => exact Laws.RoundTrip.buserrPartialBe3 w a b d h
  | buserrMisalignedAddr0 w a d => exact Laws.RoundTrip.buserrMisalignedAddr0 w a d h
  | buserrMisalignedAddr1 w a d => exact Laws.RoundTrip.buserrMisalignedAddr1 w a d h
  | buserrUnmapped14 w d => exact Laws.RoundTrip.buserrUnmapped14 w d h
  | buserrUnmapped18 w d => exact Laws.RoundTrip.buserrUnmapped18 w d h
  | buserrUnmapped1C w d => exact Laws.RoundTrip.buserrUnmapped1C w d h
  | buserrUnmapped38 w d => exact Laws.RoundTrip.buserrUnmapped38 w d h
  | buserrUnmapped3C w d => exact Laws.RoundTrip.buserrUnmapped3C w d h
  | wrId d => exact decodeTxn_wr .id d
  | wrCmd d => exact decodeTxn_wr .cmd d
  | wrStatus d => exact decodeTxn_wr .status d
  | wrCfg d => exact decodeTxn_wr .cfg d
  | wrRounds d => exact decodeTxn_wr .rounds d
  | wrKey0 d => exact decodeTxn_wr .key0 d
  | wrKey1 d => exact decodeTxn_wr .key1 d
  | wrKey2 d => exact decodeTxn_wr .key2 d
  | wrKey3 d => exact decodeTxn_wr .key3 d
  | wrData0 d => exact decodeTxn_wr .data0 d
  | wrData1 d => exact decodeTxn_wr .data1 d
  | rdId => exact decodeTxn_rd .id
  | rdCmd => exact decodeTxn_rd .cmd
  | rdStatus => exact decodeTxn_rd .status
  | rdCfg => exact decodeTxn_rd .cfg
  | rdRounds => exact decodeTxn_rd .rounds
  | rdKey0 => exact decodeTxn_rd .key0
  | rdKey1 => exact decodeTxn_rd .key1
  | rdKey2 => exact decodeTxn_rd .key2
  | rdKey3 => exact decodeTxn_rd .key3
  | rdData0 => exact decodeTxn_rd .data0
  | rdData1 => exact decodeTxn_rd .data1
  | nop => rfl
  | enc => rfl
  | dec => rfl
  | illegalCmd c => exact Laws.RoundTrip.illegalCmd c h

theorem decodeTxn_of_encode {t : Txn} {i : Instr} (hw : i.wellFormed = true) (he : encode i = .bus t) :
    decodeTxn t = .ok i :=
  (congrArg decode he).symm.trans (decode_encode i hw)

theorem readInstr_wellFormed (r : Reg) : (readInstr r).wellFormed = true := by
  cases r <;> rfl

theorem writeInstr_wellFormed (d : Word) (r : Reg) : (writeInstr d r).wellFormed = true := by
  cases r <;> rfl

theorem encode_readInstr (r : Reg) : encode (readInstr r) = .bus (.readAt r.offset) := by
  cases r <;> rfl

theorem encode_writeInstr (d : Word) (r : Reg) : encode (writeInstr d r) = .bus (.writeAt r.offset d) := by
  cases r <;> rfl

theorem Reg.offset_not_reserved (r : Reg) : r.offset ∉ Machine.reservedOffsets := by
  cases r <;> decide

theorem aligned_iff (a : BitVec 6) : a.extractLsb' 0 2 = 0#2 ↔ a.getLsbD 0 = false ∧ a.getLsbD 1 = false := by
  revert a
  decide

theorem Reg.offset_extract (r : Reg) : r.offset.extractLsb' 0 2 = 0#2 :=
  (aligned_iff _).2 r.offset_aligned

/-- Every aligned offset is a reserved one or a register's (R21, R68). -/
theorem aligned_offset_cases (a : BitVec 6) (h : a.extractLsb' 0 2 = 0#2) :
    a ∈ Machine.reservedOffsets ∨ ∃ r : Reg, a = r.offset := by
  have hall : ∀ b : BitVec 6, b.extractLsb' 0 2 = 0#2 → b ∈ Machine.reservedOffsets ∨
      ∃ r ∈ [Reg.id, .cmd, .status, .cfg, .rounds, .key0, .key1, .key2, .key3, .data0, .data1], b = r.offset := by
    decide
  exact (hall a h).imp_right fun ⟨r, _, hr⟩ => ⟨r, hr⟩

end Sys2Proof

namespace Sys2Proof.Machine

/-- The transaction is the encoding of a well-formed instruction that means a bus error of the cause `c`. -/
def BusErrs (t : Txn) (c : BusCause) : Prop :=
  ∃ i, i.wellFormed = true ∧ encode i = .bus t ∧ ∀ s, exec i s = .next (s.afterBusError c)

/-- R82 step 1: the row is that of the lowest byte enable that is 0 (log 11). -/
theorem busErrs_of_partial (t : Txn) (h : t.be ≠ 0xF#4) : BusErrs t .partialAccess := by
  by_cases h0 : t.be.getLsbD 0 = true
  · by_cases h1 : t.be.getLsbD 1 = true
    · by_cases h2 : t.be.getLsbD 2 = true
      · have h3 : t.be.getLsbD 3 ≠ true := fun h3 => h (be_full _ h0 h1 h2 h3)
        exact ⟨.buserrPartialBe3 t.we t.addr t.be t.wdata, by simp_all [Instr.wellFormed], rfl, fun _ => rfl⟩
      · exact ⟨.buserrPartialBe2 t.we t.addr t.be t.wdata, by simp_all [Instr.wellFormed], rfl, fun _ => rfl⟩
    · exact ⟨.buserrPartialBe1 t.we t.addr t.be t.wdata, by simp_all [Instr.wellFormed], rfl, fun _ => rfl⟩
  · exact ⟨.buserrPartialBe0 t.we t.addr t.be t.wdata, by simp_all [Instr.wellFormed], rfl, fun _ => rfl⟩

/-- R82 step 2: the row is that of the lowest address bit that is 1 (log 11). -/
theorem busErrs_of_misaligned (w : Bool) (a : BitVec 6) (d : Word) (h : a.extractLsb' 0 2 ≠ 0#2) :
    BusErrs ⟨w, a, 0xF#4, d⟩ .misaligned := by
  by_cases h0 : a.getLsbD 0 = true
  · exact ⟨.buserrMisalignedAddr0 w a d, h0, rfl, fun _ => rfl⟩
  · have h1 : a.getLsbD 1 = true := by
      rw [Ne, aligned_iff] at h
      simp_all
    exact ⟨.buserrMisalignedAddr1 w a d, by simp_all [Instr.wellFormed], rfl, fun _ => rfl⟩

/-- R82 step 3. -/
theorem busErrs_of_reserved (w : Bool) (a : BitVec 6) (d : Word) (h : a ∈ reservedOffsets) :
    BusErrs ⟨w, a, 0xF#4, d⟩ .unmapped := by
  obtain rfl | rfl | rfl | rfl | rfl : a = 0x14#6 ∨ a = 0x18#6 ∨ a = 0x1C#6 ∨ a = 0x38#6 ∨ a = 0x3C#6 := by
    simpa [reservedOffsets] using h
  · exact ⟨.buserrUnmapped14 w d, rfl, rfl, fun _ => rfl⟩
  · exact ⟨.buserrUnmapped18 w d, rfl, rfl, fun _ => rfl⟩
  · exact ⟨.buserrUnmapped1C w d, rfl, rfl, fun _ => rfl⟩
  · exact ⟨.buserrUnmapped38 w d, rfl, rfl, fun _ => rfl⟩
  · exact ⟨.buserrUnmapped3C w d, rfl, rfl, fun _ => rfl⟩

/-- R82 step 4. -/
theorem busErrs_of_writeId (d : Word) : BusErrs (wr .id d) .readOnly :=
  ⟨.wrId d, rfl, rfl, fun _ => rfl⟩

/-- Every transaction fails one of R82's first three checks, or is a full-word access to a register. -/
theorem txn_cases (t : Txn) :
    (∃ c, BusErrs t c) ∨ (∃ r d, t = wr r d) ∨ ∃ r d, t = ⟨false, Reg.offset r, 0xF#4, d⟩ := by
  obtain ⟨w, a, b, d⟩ := t
  by_cases hb : b = 0xF#4
  · subst hb
    by_cases ha : a.extractLsb' 0 2 = 0#2
    · obtain hres | ⟨r, rfl⟩ := aligned_offset_cases a ha
      · exact .inl ⟨_, busErrs_of_reserved w a d hres⟩
      · cases w
        · exact .inr (.inr ⟨r, d, rfl⟩)
        · exact .inr (.inl ⟨r, d, rfl⟩)
    · exact .inl ⟨_, busErrs_of_misaligned w a d ha⟩
  · exact .inl ⟨_, busErrs_of_partial _ hb⟩

/-- Every transaction is decoded, to a well-formed instruction, which is the transaction's encoding but for the data word of an
accepted read (R91). -/
theorem decodeTxn_total (t : Txn) :
    ∃ i, decodeTxn t = .ok i ∧ i.wellFormed = true ∧
      (encode i = .bus t ∨ ∃ r d, i = readInstr r ∧ t = ⟨false, r.offset, 0xF#4, d⟩) := by
  obtain ⟨c, i, hw, he, -⟩ | ⟨r, d, rfl⟩ | ⟨r, d, rfl⟩ := txn_cases t
  · exact ⟨i, decodeTxn_of_encode hw he, hw, .inl he⟩
  · exact ⟨_, decodeTxn_wr r d, writeInstr_wellFormed d r, .inl (encode_writeInstr d r)⟩
  · exact ⟨_, decodeTxn_fullRead r d, readInstr_wellFormed r, .inr ⟨r, d, rfl, rfl⟩⟩

theorem encode_of_decodeTxn {t : Txn} {i : Instr} (h : decodeTxn t = .ok i) :
    encode i = .bus t ∨ ∃ r d, i = readInstr r ∧ t = ⟨false, r.offset, 0xF#4, d⟩ := by
  obtain ⟨j, hj, -, he⟩ := decodeTxn_total t
  cases h.symm.trans hj
  exact he

/-- No transaction is decoded to a command: on the bus a command is WR CMD of its word (R74). -/
theorem encode_ne_cmd_of_decodeTxn {t : Txn} {i : Instr} (h : decodeTxn t = .ok i) (c : Word) : encode i ≠ .cmd c := by
  obtain he | ⟨r, d, rfl, -⟩ := encode_of_decodeTxn h
  · simp [he]
  · simp [encode_readInstr]

/-- The only transaction that is decoded to a register write is that write. -/
theorem eq_wr_of_decodeTxn {t : Txn} {i : Instr} {r : Reg} {d : Word} (h : decodeTxn t = .ok i)
    (he : encode i = .bus (wr r d)) : t = wr r d := by
  obtain ht | ⟨r', d', rfl, -⟩ := encode_of_decodeTxn h
  · exact Encoded.bus.inj (ht.symm.trans he)
  · rw [encode_readInstr] at he
    cases congrArg Txn.we (Encoded.bus.inj he)

end Sys2Proof.Machine
end

section
/-! PROOFS. The decoder and the encoder (30_encoding.md). -/

namespace Sys2Proof.Proofs.DecodeEncode

open Sys2Proof Sys2Proof.Machine

/-- Settles O5, by the round trip of each row. -/
theorem decodeOfEncodeIsTheInstruction : Obligations.DecodeOfEncodeIsTheInstruction :=
  decode_encode

/-- Settles O4: the four checks and the registers leave no transaction over. -/
theorem everyTransactionDecodes : Obligations.EveryTransactionDecodes := by
  intro t
  obtain ⟨i, hd, hw, -⟩ := decodeTxn_total t
  exact ⟨i, hd, hw⟩

/-- Settles O6: only a full-word read of a register loses its data word. -/
theorem encodeOfDecodeIsTheTransaction : Obligations.EncodeOfDecodeIsTheTransaction := by
  intro t i h
  obtain he | ⟨r, d, rfl, rfl⟩ := encode_of_decodeTxn h
  · exact .inl he
  · exact .inr ⟨rfl, rfl, r.offset_extract, r.offset_not_reserved, encode_readInstr r⟩

end Sys2Proof.Proofs.DecodeEncode
end

section
/-! SUPPORT. The step where each agent's move comes next (20_memory.md R70), and what it does to the engine. -/

namespace Sys2Proof.Machine

/-- A host's transaction out of reset runs as the instruction it is decoded to. -/
theorem hostStep_of_decodeTxn {t : Txn} {i : Instr} {s : State} (m : Nat) (hr : s.rstN = true) (hd : decodeTxn t = .ok i) :
    hostStep m t s = exec i { s with issuer := m } := by
  rw [hostStep, if_pos hr, hd]
  rfl

theorem step_of_decodeTxn {s : State} {m : Nat} {t : Txn} {rest : List Event} {i : Instr} (hr : s.rstN = true)
    (ha : s.agenda = .txn m t :: rest) (hd : decodeTxn t = .ok i) :
    step s = exec i { s with agenda := rest, issuer := m } :=
  (step_txn s m t rest ha).trans (hostStep_of_decodeTxn m hr hd)

theorem engineStep_of_rstN {s : State} (hr : s.rstN = true) :
    engineStep s = { s with engine := s.engine.agentStep, resp := none } := by
  simp [engineStep, hr, State.setEngine, State.setResp]

theorem step_of_engineMoves {s : State} (h : s.engineMoves) :
    step s = .next { s with engine := s.engine.agentStep, resp := none, agenda := s.agenda.tail } := by
  obtain ⟨hr, ha | ⟨rest, ha⟩⟩ := h
  · rw [step_nil s ha, engineStep_of_rstN hr, ha]
    rfl
  · rw [step_cons s _ rest ha, ha]
    exact congrArg Host.Outcome.next (engineStep_of_rstN (s := s.setAgenda rest) hr)

theorem step_of_resetsNext {s : State} (h : s.resetsNext) :
    step s = .next { s with engine := Engine.reset, resp := none, rstN := false, agenda := s.agenda.tail } := by
  obtain ⟨rest, ha⟩ | ⟨hr, ha | ⟨rest, ha⟩⟩ := h
  · rw [step_cons s _ rest ha, ha]
    rfl
  · simp [step_nil s ha, engineStep, resetEdge, State.setEngine, State.setResp, hr, ha]
  · simp [step_cons s _ rest ha, eventStep, engineStep, resetEdge, State.setEngine, State.setResp, State.setAgenda, hr, ha]

theorem step_of_release {s : State} {rest : List Event} (ha : s.agenda = .resetHigh :: rest) :
    step s = .next { s with rstN := true, resp := none, agenda := rest } :=
  step_cons s _ rest ha

/-- The engine agent's step is no step, the completion step or the round step (R134, R135; log 14). -/
theorem Engine.agentStep_cases (e : Engine) :
    (e.agentStep = e ∧ ¬(e.status.busy = true ∧ e.cnt ≤ e.n)) ∨
      (e.agentStep = e.completionStep ∧ e.status.busy = true ∧ e.cnt = e.n) ∨
      (e.agentStep = e.roundStep ∧ e.status.busy = true ∧ e.cnt < e.n) := by
  cases hb : e.status.busy
  · exact .inl ⟨e.agentStep_idle hb, by simp⟩
  · obtain hlt | heq | hgt := BitVec.lt_trichotomy e.cnt e.n
    · exact .inr (.inr ⟨e.agentStep_round hb hlt, rfl, hlt⟩)
    · exact .inr (.inl ⟨e.agentStep_complete hb heq, rfl, heq⟩)
    · refine .inl ⟨?_, fun h => BitVec.not_le.2 hgt h.2⟩
      have hne : e.cnt ≠ e.n := fun h => BitVec.lt_irrefl _ (h ▸ hgt)
      simp [Engine.agentStep, hne, BitVec.not_lt.2 (BitVec.le_of_lt hgt)]

theorem exec_next {i : Instr} {s t : State} (h : exec i s = .next t) :
    OuterFrame s t ∧ EngineChange i s.engine t.engine := by
  obtain ⟨u, hu, hframe, hchange⟩ := exec_cases i s
  cases h.symm.trans hu
  exact ⟨hframe, hchange⟩

/-- What one step does to the engine, whichever agent's move it is. -/
inductive EngineMove (s t : State) : Prop where
  | txn (x : Txn) (i : Instr) (hp : s.presents x) (hd : decodeTxn x = .ok i) (hc : EngineChange i s.engine t.engine)
  | complete (hm : s.completesNext) (he : t.engine = s.engine.completionStep)
  | round (hb : s.engine.status.busy = true) (hlt : s.engine.cnt < s.engine.n) (he : t.engine = s.engine.roundStep)
  | reset (hm : s.resetsNext) (he : t.engine = Engine.reset)
  | stay (he : t.engine = s.engine)

theorem step_engine_cases {s t : State} (h : step s = .next t) : EngineMove s t := by
  cases step_cases s t h with
  | host m x rest i ha hr hd he => exact .txn x i ⟨hr, m, rest, ha⟩ hd (exec_next he).2
  | engine hm he =>
    obtain ⟨hsame, -⟩ | ⟨hcomplete, hb, hc⟩ | ⟨hround, hb, hlt⟩ := s.engine.agentStep_cases
    · exact .stay (he.trans hsame)
    · exact .complete ⟨hm, hb, hc⟩ (he.trans hcomplete)
    · exact .round hb hlt (he.trans hround)
  | reset hm he => exact .reset hm he
  | release rest ha he => exact .stay he

end Sys2Proof.Machine
end

section
/-! SUPPORT. The invariants of 10_state.md R40, kept by each change of the engine. -/

namespace Sys2Proof.Machine

/-- The status items speak of STATUS, `cnt` and `n` alone. -/
theorem Engine.StatusInv.congr {e e' : Engine} (h : e.StatusInv) (hs : e'.status = e.status) (hc : e'.cnt = e.cnt)
    (hn : e'.n = e.n) : e'.StatusInv where
  busy_not_done := by simpa only [hs] using h.busy_not_done
  no_err_no_code := by simpa only [hs] using h.no_err_no_code
  err_code_range := by simpa only [hs] using h.err_code_range
  cnt_le_n := by simpa only [hs, hc, hn] using h.cnt_le_n

theorem Engine.StatusInv.flagError {e : Engine} (h : e.StatusInv) (p : ProtocolError) : (e.flagError p).StatusInv := by
  cases herr : e.status.err with
  | true => rwa [Engine.flagError_err p e herr]
  | false =>
    rw [Engine.flagError_eq, Status.flagError_clear p _ herr]
    exact {
      busy_not_done := h.busy_not_done
      no_err_no_code := fun hclear => by cases hclear
      err_code_range := fun _ => by cases p <;> simp [ProtocolError.code]
      cnt_le_n := h.cnt_le_n }

theorem Status.write_clears_err {d : Word} (st : Status) (hd : d.getLsbD 2 = true) :
    (st.write d).err = false ∧ (st.write d).errCode = 0#4 :=
  ⟨if_pos hd, if_pos hd⟩

theorem Status.write_keeps_err {d : Word} (st : Status) (hd : d.getLsbD 2 = false) :
    (st.write d).err = st.err ∧ (st.write d).errCode = st.errCode :=
  ⟨if_neg (ne_true_of_eq_false hd), if_neg (ne_true_of_eq_false hd)⟩

theorem Engine.StatusInv.writeStatus {e : Engine} (h : e.StatusInv) (d : Word) :
    (e.setStatus (e.status.write d)).StatusInv where
  busy_not_done := fun hb => by simp [Status.write, h.busy_not_done hb]
  no_err_no_code := by
    cases hd : d.getLsbD 2 with
    | true => exact fun _ => (e.status.write_clears_err hd).2
    | false => simpa [e.status.write_keeps_err hd] using h.no_err_no_code
  err_code_range := by
    cases hd : d.getLsbD 2 with
    | true => simp [e.status.write_clears_err hd]
    | false => simpa [e.status.write_keeps_err hd] using h.err_code_range
  cnt_le_n := h.cnt_le_n

theorem Engine.StatusInv.accept {e : Engine} (h : e.StatusInv) (op : Op) : (e.accept op).StatusInv where
  busy_not_done := fun _ => rfl
  no_err_no_code := h.no_err_no_code
  err_code_range := h.err_code_range
  cnt_le_n := fun _ => BitVec.le_def.2 (Nat.zero_le _)

theorem Engine.StatusInv.change {i : Instr} {e e' : Engine} (h : e.StatusInv) (hc : EngineChange i e e') : e'.StatusInv := by
  cases hc with
  | same => exact h
  | busy | locked | illegalWord | illegalCmd => exact h.flagError _
  | status d => exact h.writeStatus d
  | cfg | rounds | data0 | data1 | key => exact h.congr rfl rfl rfl
  | accept op => exact h.accept op

theorem Engine.StatusInv.complete {e : Engine} (h : e.StatusInv) : e.completionStep.StatusInv where
  busy_not_done := fun hb => by cases hb
  no_err_no_code := h.no_err_no_code
  err_code_range := h.err_code_range
  cnt_le_n := fun hb => by cases hb

theorem Engine.cnt_succ {e : Engine} (h : e.cnt < e.n) : (e.cnt + 1#32).toNat = e.cnt.toNat + 1 := by
  have hlt : e.cnt.toNat < e.n.toNat := h
  have hn : e.n.toNat < 2 ^ 32 := e.n.isLt
  rw [BitVec.toNat_add, BitVec.toNat_ofNat]
  omega

theorem Engine.StatusInv.round {e : Engine} (h : e.StatusInv) (hlt : e.cnt < e.n) : e.roundStep.StatusInv where
  busy_not_done := h.busy_not_done
  no_err_no_code := h.no_err_no_code
  err_code_range := h.err_code_range
  cnt_le_n := fun _ => BitVec.le_def.2 ((Engine.cnt_succ hlt).trans_le hlt)

/-- A busy engine lets an instruction change STATUS and CFG only, and stays busy (R138, R239). -/
theorem EngineChange.frame_of_busy {i : Instr} {e e' : Engine} (hc : EngineChange i e e') (hb : e.status.busy = true) :
    ∃ st c, e' = { e with status := st, cfg := c } ∧ st.busy = true := by
  cases hc with
  | same => exact ⟨_, _, rfl, hb⟩
  | busy => exact ⟨_, _, rfl, (Status.flagError_busy _ _).trans hb⟩
  | status d => exact ⟨_, _, rfl, hb⟩
  | cfg d => exact ⟨_, _, rfl, hb⟩
  | locked | illegalWord | illegalCmd | rounds | data0 | data1 | key | accept => simp_all

/-- An idle engine is busy after an instruction only if it accepted an operation. -/
theorem EngineChange.idle_cases {i : Instr} {e e' : Engine} (hc : EngineChange i e e') (hb : e.status.busy = false) :
    e'.status.busy = false ∨ ∃ op, e' = e.accept op ∧
      (i = .wrCmd (cmdWord op) ∨ encode i = .cmd (cmdWord op)) := by
  cases hc with
  | same | status | cfg | rounds | data0 | data1 | key => exact .inl hb
  | busy | locked | illegalWord | illegalCmd => exact .inl ((Status.flagError_busy _ _).trans hb)
  | accept op _ _ _ hi =>
    refine .inr ⟨op, rfl, ?_⟩
    cases op <;> exact hi.imp id (congrArg encode)

/-- Straight after its acceptance an operation has done no round. -/
theorem Engine.accept_workInv (e : Engine) (op : Op) : (e.accept op).WorkInv :=
  fun _ => ⟨rfl, by cases op <;> rfl⟩

theorem Engine.workInv_of_idle {e : Engine} (h : e.status.busy = false) : e.WorkInv :=
  fun hb => absurd hb (by simp [h])

theorem Engine.WorkInv.change {i : Instr} {e e' : Engine} (h : e.WorkInv) (hc : EngineChange i e e') : e'.WorkInv := by
  cases hb : e.status.busy with
  | true =>
    obtain ⟨st, c, rfl, -⟩ := hc.frame_of_busy hb
    exact fun _ => h hb
  | false =>
    obtain hidle | ⟨op, rfl, -⟩ := hc.idle_cases hb
    · exact Engine.workInv_of_idle hidle
    · exact e.accept_workInv op

/-- A round step is one round more, and one more in `cnt` (R134). -/
theorem Engine.WorkInv.round {e : Engine} (h : e.WorkInv) (hlt : e.cnt < e.n) : e.roundStep.WorkInv := by
  intro hb
  obtain ⟨hn, hwork⟩ := h hb
  refine ⟨hn, ?_⟩
  calc e.roundStep.work = roundOf e.op e.key e.work := rfl
    _ = roundsOf e.op e.key (e.cnt.toNat + 1) ⟨e.data0, e.data1, startSum e.op e.n⟩ := by rw [roundsOf_succ, hwork]
    _ = roundsOf e.op e.key (e.cnt + 1#32).toNat ⟨e.data0, e.data1, startSum e.op e.n⟩ := by rw [Engine.cnt_succ hlt]

/-- Both parts of the invariant in the reset state: nothing is recorded and nothing in flight. -/
theorem reset_inv : State.reset.Inv where
  status := {
    busy_not_done := fun h => by cases h
    no_err_no_code := fun _ => rfl
    err_code_range := fun h => by cases h
    cnt_le_n := fun h => by cases h }
  work := Engine.workInv_of_idle rfl

theorem step_keeps_inv {s t : State} (hs : s.Inv) (h : step s = .next t) : t.Inv := by
  obtain ⟨hstatus, hwork⟩ := hs
  cases step_engine_cases h with
  | txn x i _ _ hc => exact ⟨hstatus.change hc, hwork.change hc⟩
  | complete _ he => exact ⟨he ▸ hstatus.complete, he ▸ Engine.workInv_of_idle rfl⟩
  | round _ hlt he => exact ⟨he ▸ hstatus.round hlt, he ▸ hwork.round hlt⟩
  | reset _ he => exact ⟨he ▸ reset_inv.status, he ▸ reset_inv.work⟩
  | stay he => exact ⟨he ▸ hstatus, he ▸ hwork⟩

end Sys2Proof.Machine
end

section
/-! PROOFS. The invariant (10_state.md R40). -/

namespace Sys2Proof.Proofs.Invariant

open Sys2Proof Sys2Proof.Machine

/-- Settles O44: the status items and the work item are each kept by an instruction's change, a round step and the completion
step. -/
theorem everyStepKeepsTheInvariant : Obligations.EveryStepKeepsTheInvariant :=
  fun _ _ => step_keeps_inv

/-- Settles O43: in the reset state no error is recorded and no operation is in flight. -/
theorem resetHasTheInvariant : Obligations.ResetHasTheInvariant :=
  reset_inv

end Sys2Proof.Proofs.Invariant
end

section
/-! SUPPORT. What a transaction answers on the bus (R150), by the check of R82 that decides it. -/

namespace Sys2Proof.Machine

theorem hostStep_of_busErrs {t : Txn} {c : BusCause} {s : State} (m : Nat) (h : BusErrs t c) (hr : s.rstN = true) :
    hostStep m t s = .next (({ s with issuer := m } : State).afterBusError c) := by
  obtain ⟨i, hw, he, hexec⟩ := h
  rw [hostStep_of_decodeTxn m hr (decodeTxn_of_encode hw he), hexec]

/-- R82's checks that end in a bus error, each with its cause. -/
theorem hostStep_busError_checks (m : Nat) (t : Txn) (s : State) (hr : s.rstN = true) :
    (t.be ≠ 0xF#4 → hostStep m t s = .next (({ s with issuer := m } : State).afterBusError .partialAccess)) ∧
    (t.be = 0xF#4 → t.addr.extractLsb' 0 2 ≠ 0#2 →
      hostStep m t s = .next (({ s with issuer := m } : State).afterBusError .misaligned)) ∧
    (t.be = 0xF#4 → t.addr ∈ reservedOffsets →
      hostStep m t s = .next (({ s with issuer := m } : State).afterBusError .unmapped)) ∧
    (t.be = 0xF#4 → t.we = true → t.addr = 0x00#6 →
      hostStep m t s = .next (({ s with issuer := m } : State).afterBusError .readOnly)) := by
  obtain ⟨w, a, b, d⟩ := t
  refine ⟨fun hb => ?_, fun hb ha => ?_, fun hb ha => ?_, fun hb hw ha => ?_⟩
  · exact hostStep_of_busErrs m (busErrs_of_partial _ hb) hr
  · obtain rfl : b = 0xF#4 := hb
    exact hostStep_of_busErrs m (busErrs_of_misaligned w a d ha) hr
  · obtain rfl : b = 0xF#4 := hb
    exact hostStep_of_busErrs m (busErrs_of_reserved w a d ha) hr
  · obtain ⟨rfl, rfl, rfl⟩ : w = true ∧ a = 0x00#6 ∧ b = 0xF#4 := ⟨hw, ha, hb⟩
    exact hostStep_of_busErrs m (busErrs_of_writeId d) hr

theorem decodeCmd_cases (c : Word) :
    decodeCmd c = .nop ∨ decodeCmd c = .enc ∨ decodeCmd c = .dec ∨ decodeCmd c = .illegalCmd c := by
  unfold decodeCmd
  split_ifs <;> simp

theorem writeWhenIdle_afterWrite (f : Engine → Engine) (s : State) :
    ∃ e, writeWhenIdle f s = .next (s.afterWrite e) := by
  cases hb : s.engine.status.busy with
  | true => exact ⟨_, writeWhenIdle_busy f s hb⟩
  | false => exact ⟨_, writeWhenIdle_idle f s hb⟩

theorem writeKeyWhenUnlocked_afterWrite (f : Key → Key) (s : State) :
    ∃ e, writeKeyWhenUnlocked f s = .next (s.afterWrite e) := by
  cases hb : s.engine.status.busy with
  | true => exact ⟨_, writeKeyWhenUnlocked_busy f s hb⟩
  | false =>
    cases hl : s.engine.cfg.keyLock with
    | true => exact ⟨_, writeKeyWhenUnlocked_locked f s hb hl⟩
    | false => exact ⟨_, writeKeyWhenUnlocked_unlocked f s hb hl⟩

theorem exec_wrCmd_afterWrite (c : Word) (s : State) : ∃ e, exec (.wrCmd c) s = .next (s.afterWrite e) := by
  rw [exec_wrCmd_eq_exec_decodeCmd]
  obtain h | h | h | h := decodeCmd_cases c <;>
    simp only [h, exec_nop, exec_enc, exec_dec, exec_illegalCmd, writeWhenIdle_afterWrite]

/-- Every register write but the one to ID is accepted on the bus, refused by the register protocol or not (R150). -/
theorem exec_writeInstr_afterWrite (r : Reg) (d : Word) (s : State) (hr : r ≠ .id) :
    ∃ e, exec (writeInstr d r) s = .next (s.afterWrite e) := by
  cases r with
  | id => exact absurd rfl hr
  | cmd => exact exec_wrCmd_afterWrite d s
  | status => exact ⟨_, exec_wrStatus d s⟩
  | cfg => exact ⟨_, exec_wrCfg d s⟩
  | rounds | data0 | data1 =>
    simp only [writeInstr, exec_wrRounds, exec_wrData0, exec_wrData1, writeWhenIdle_afterWrite]
  | key0 | key1 | key2 | key3 =>
    simp only [writeInstr, exec_wrKey0, exec_wrKey1, exec_wrKey2, exec_wrKey3, writeKeyWhenUnlocked_afterWrite]

/-- R82 step 5: a full-word access to a register is taken, but for the write to ID. -/
theorem hostStep_register_access (m : Nat) (t : Txn) (s : State) (hr : s.rstN = true) (hb : t.be = 0xF#4)
    (ha : t.addr.extractLsb' 0 2 = 0#2) (hres : t.addr ∉ reservedOffsets) (hid : ¬(t.we = true ∧ t.addr = 0x00#6)) :
    ∃ (u : State) (v : Word), hostStep m t s = .next u ∧ u.resp = some { rdata := v, err := false } ∧
      u.hostFaults = s.hostFaults := by
  obtain ⟨w, a, b, d⟩ := t
  obtain rfl : b = 0xF#4 := hb
  obtain ⟨r, rfl⟩ := (aligned_offset_cases a ha).resolve_left hres
  cases w with
  | false =>
    rw [hostStep_of_decodeTxn m hr (decodeTxn_fullRead r d), exec_readInstr]
    exact ⟨_, _, rfl, rfl, rfl⟩
  | true =>
    have hne : r ≠ .id := fun h => hid ⟨rfl, congrArg Reg.offset h⟩
    obtain ⟨e, he⟩ := exec_writeInstr_afterWrite r d { s with issuer := m } hne
    exact ⟨_, _, (hostStep_of_decodeTxn m hr (decodeTxn_wr r d)).trans he, rfl, rfl⟩

theorem Engine.recorded_of_clear (e : Engine) (code : BitVec 4) (h : e.status.err = false) :
    e.recorded code = { e with status := { e.status with err := true, errCode := code } } := by
  rw [Engine.recorded, h]

/-- A refusal where no error is recorded: its code, and a normal bus response (R200, R205). -/
theorem refusal_answer {i : Instr} {s : State} {code : BitVec 4} (herr : s.engine.status.err = false)
    (h : exec i s = .next (s.afterWrite (s.engine.recorded code))) :
    ∃ u, exec i s = .next u ∧ u.engine.status.err = true ∧ u.engine.status.errCode = code ∧
      u.resp = some { rdata := 0#32, err := false } ∧ u.hostFaults = s.hostFaults := by
  rw [Engine.recorded_of_clear _ _ herr] at h
  exact ⟨_, h, rfl, rfl, rfl, rfl⟩

theorem writesProtected_writeInstr (r : Reg) (d : Word) (h : r ∈ busyRegs) : writesProtected (writeInstr d r) = true := by
  revert h
  cases r <;> simp [busyRegs, writeInstr, writesProtected]

theorem writesKey_writeInstr (r : Reg) (d : Word) (h : r ∈ keyRegs) : writesKey (writeInstr d r) = true := by
  revert h
  cases r <;> simp [keyRegs, writeInstr, writesKey]

theorem eq_writeInstr_of_decodeTxn {r : Reg} {d : Word} {i : Instr} (h : decodeTxn (wr r d) = .ok i) :
    i = writeInstr d r :=
  Except.ok.inj (h.symm.trans (decodeTxn_wr r d))

theorem step_total_of_rstN (s : State) (hr : s.rstN = true) : ∃ t, step s = .next t := by
  cases ha : s.agenda with
  | nil => exact ⟨_, step_nil s ha⟩
  | cons ev rest =>
    cases ev with
    | txn m x =>
      obtain ⟨i, hd, -⟩ := decodeTxn_total x
      obtain ⟨t, ht, -⟩ := exec_cases i { s with agenda := rest, issuer := m }
      exact ⟨t, (step_of_decodeTxn hr ha hd).trans ht⟩
    | engine | resetLow | resetHigh => exact ⟨_, step_cons s _ rest ha⟩

/-- A busy engine with `cnt` > `n` takes no engine step (log 14). -/
theorem Engine.agentStep_past (e : Engine) (hlt : e.n < e.cnt) : e.agentStep = e := by
  obtain ⟨hsame, -⟩ | ⟨-, -, heq⟩ | ⟨-, -, hgt⟩ := e.agentStep_cases
  · exact hsame
  · exact absurd hlt (heq ▸ BitVec.lt_irrefl _)
  · exact absurd hlt (BitVec.lt_asymm hgt)

end Sys2Proof.Machine
end

section
/-! PROOFS. Single transactions and single moves (20_memory.md section 4, 41_commands.md, 60_exceptions.md section 2,
70_reset_and_hazards.md). -/

namespace Sys2Proof.Proofs.SingleStep

open Sys2Proof Sys2Proof.Machine

/-- Settles O7: out of reset the host's move is `exec` of what the decoder gives. -/
theorem stepRunsTheDecodedTransaction : Obligations.StepRunsTheDecodedTransaction :=
  fun _ _ _ _ _ => step_of_decodeTxn

/-- Settles O8: R130's order of tests and R84's decoder agree. -/
theorem wrCmdRunsTheDecodedCommand : Obligations.WrCmdRunsTheDecodedCommand :=
  exec_wrCmd_eq_exec_decodeCmd

/-- Settles O9: the four bus errors, and else the access to a register. -/
theorem selectorChecksRunInOrder : Obligations.SelectorChecksRunInOrder := by
  intro m t s hr
  obtain ⟨hpartial, hmisaligned, hreserved, hid⟩ := hostStep_busError_checks m t s hr
  exact ⟨hpartial, hmisaligned, hreserved, hid, hostStep_register_access m t s hr⟩

/-- Settles O10: the arm of each row is `busError` of its cause. -/
theorem busErrorRowsAnswerErrAndChangeNoRegister : Obligations.BusErrorRowsAnswerErrAndChangeNoRegister :=
  fun s _ _ _ _ =>
    ⟨busError_next _ s, busError_next _ s, busError_next _ s, busError_next _ s, busError_next _ s, busError_next _ s,
      busError_next _ s, busError_next _ s, busError_next _ s, busError_next _ s, busError_next _ s, busError_next _ s⟩

/-- Settles O16: the busy guard decides between the store and the refusal. -/
theorem wrRoundsStoresWhenIdle : Obligations.WrRoundsStoresWhenIdle :=
  fun d s => ⟨fun hidle => (exec_wrRounds d s).trans (writeWhenIdle_idle _ s hidle), exec_protected_busy (.wrRounds d) s rfl⟩

/-- Settles O22: `Engine.started` is the acceptance record written out. -/
theorem encAndDecAreAcceptedWhenIdle : Obligations.EncAndDecAreAcceptedWhenIdle :=
  fun s =>
    ⟨fun hidle => ⟨exec_enc_idle s hidle, exec_dec_idle s hidle⟩,
      fun hbusy => ⟨exec_protected_busy .enc s rfl hbusy, exec_protected_busy .dec s rfl hbusy⟩⟩

/-- Settles O25: the move is the agent's step, which neither an idle engine nor one past its rounds takes. -/
theorem engineMoveIsTheAgentStep : Obligations.EngineMoveIsTheAgentStep :=
  ⟨fun _ => step_of_engineMoves, fun e => ⟨e.agentStep_idle, fun _ => e.agentStep_past⟩⟩

/-- Settles O28: the bus decides before the engine looks at the transaction, and then the guards decide in their order. -/
theorem errorPriorityIsBusThenBusyThenLockThenIllegal : Obligations.ErrorPriorityIsBusThenBusyThenLockThenIllegal := by
  intro s herr
  refine ⟨fun m t => hostStep_busError_checks m t s, fun hbusy d r hreg i hd => ?_,
    fun hidle hlock d r hreg i hd => ?_, fun hidle c hc => ?_⟩
  · rw [eq_writeInstr_of_decodeTxn hd]
    exact refusal_answer herr (exec_protected_busy _ s (writesProtected_writeInstr r d hreg) hbusy)
  · rw [eq_writeInstr_of_decodeTxn hd]
    exact refusal_answer herr (exec_key_locked _ s (writesKey_writeInstr r d hreg) hidle hlock)
  · exact refusal_answer herr (exec_wrCmd_illegal_idle c s hidle hc)

/-- Settles O40: both moves are whole records. -/
theorem resetAbortsTheOperation : Obligations.ResetAbortsTheOperation :=
  ⟨fun _ h => ⟨_, step_of_resetsNext h, rfl, rfl, rfl, rfl, rfl, rfl, rfl, rfl, rfl, rfl, rfl, rfl, rfl⟩,
    fun _ _ => step_of_release⟩

/-- Settles O42: every transaction is decoded and every instruction answers. -/
theorem everyStepAnswersOutOfReset : Obligations.EveryStepAnswersOutOfReset :=
  ⟨fun i s => (exec_cases i s).imp fun _ h => h.1, step_total_of_rstN⟩

end Sys2Proof.Proofs.SingleStep
end

section
/-! SUPPORT. The bytes of a word, bit by bit (20_memory.md R61), and the window's addresses (00_scope.md R10). -/

namespace Sys2Proof.Machine

theorem wordOfBytes_getLsbD (b0 b1 b2 b3 : Byte) (i : Nat) :
    (wordOfBytes b0 b1 b2 b3).getLsbD i =
      if i < 8 then b3.getLsbD i else if i < 16 then b2.getLsbD (i - 8)
      else if i < 24 then b1.getLsbD (i - 16) else b0.getLsbD (i - 24) := by
  have h3 : (wordOfBytes b0 b1 b2 b3).getLsbD i = if i < 8 then b3.getLsbD i else (b0 ++ b1 ++ b2).getLsbD (i - 8) :=
    BitVec.getLsbD_append
  have h2 : (b0 ++ b1 ++ b2).getLsbD (i - 8) = if i - 8 < 8 then b2.getLsbD (i - 8) else (b0 ++ b1).getLsbD (i - 8 - 8) :=
    BitVec.getLsbD_append
  have h1 : (b0 ++ b1).getLsbD (i - 8 - 8) =
      if i - 8 - 8 < 8 then b1.getLsbD (i - 8 - 8) else b0.getLsbD (i - 8 - 8 - 8) :=
    BitVec.getLsbD_append
  rw [h3, h2, h1]
  simp only [Nat.sub_sub, Nat.reduceAdd, show i - 8 < 8 ↔ i < 16 by omega, show i - 16 < 8 ↔ i < 24 by omega]

/-- A byte moved up in a word shows below bit 32 only at its own eight bits. -/
theorem byte_shiftLeft_getLsbD (b : Byte) (k i : Nat) (hi : i < 32) :
    (b.setWidth 32 <<< k).getLsbD i = if k ≤ i ∧ i < k + 8 then b.getLsbD (i - k) else false := by
  rw [BitVec.getLsbD_shiftLeft, BitVec.getLsbD_setWidth]
  by_cases hlow : i < k
  · simp [hlow, Nat.not_le.2 hlow]
  · by_cases hhigh : i < k + 8
    · simp [hlow, hhigh, hi, Nat.not_lt.1 hlow, show i - k < 32 by omega]
    · simp [hhigh, b.getLsbD_of_ge (i - k) (by omega)]

theorem wordOfBytes_eq_shifts (b0 b1 b2 b3 : Byte) :
    wordOfBytes b0 b1 b2 b3 =
      (b0.setWidth 32 <<< 24 ||| b1.setWidth 32 <<< 16 ||| b2.setWidth 32 <<< 8 ||| b3.setWidth 32) := by
  apply BitVec.eq_of_getLsbD_eq
  intro i hi
  have hlast : (b3.setWidth 32).getLsbD i = if i < 8 then b3.getLsbD i else false := by
    simpa using byte_shiftLeft_getLsbD b3 0 i hi
  simp only [wordOfBytes_getLsbD, BitVec.getLsbD_or, byte_shiftLeft_getLsbD _ _ i hi, hlast]
  by_cases h3 : i < 8
  · simp [h3, show ¬24 ≤ i ∧ ¬16 ≤ i ∧ ¬8 ≤ i by omega]
  · by_cases h2 : i < 16
    · simp [h3, h2, show ¬24 ≤ i ∧ ¬16 ≤ i ∧ 8 ≤ i by omega]
    · by_cases h1 : i < 24
      · simp [h3, h2, h1, show ¬24 ≤ i ∧ 16 ≤ i by omega]
      · simp [h3, h2, h1, hi, Nat.not_lt.1 h1]

/-- Each byte stands in the word where `BlockBytes.toBlock` put it. -/
theorem wordOfBytes_extract (b0 b1 b2 b3 : Byte) :
    (wordOfBytes b0 b1 b2 b3).extractLsb' 24 8 = b0 ∧ (wordOfBytes b0 b1 b2 b3).extractLsb' 16 8 = b1 ∧
      (wordOfBytes b0 b1 b2 b3).extractLsb' 8 8 = b2 ∧ (wordOfBytes b0 b1 b2 b3).extractLsb' 0 8 = b3 := by
  refine ⟨?_, ?_, ?_, ?_⟩ <;> ext i hi <;>
    rw [BitVec.getElem_extractLsb', wordOfBytes_getLsbD, ← BitVec.getLsbD_eq_getElem hi]
  · rw [if_neg (by omega), if_neg (by omega), if_neg (by omega), Nat.add_sub_cancel_left]
  · rw [if_neg (by omega), if_neg (by omega), if_pos (by omega), Nat.add_sub_cancel_left]
  · rw [if_neg (by omega), if_pos (by omega), Nat.add_sub_cancel_left]
  · rw [if_pos (by omega), Nat.zero_add]

/-- A word is made of its own four bytes. -/
theorem wordOfBytes_of_extracts (x : Word) :
    wordOfBytes (x.extractLsb' 24 8) (x.extractLsb' 16 8) (x.extractLsb' 8 8) (x.extractLsb' 0 8) = x := by
  apply BitVec.eq_of_getLsbD_eq
  intro i hi
  rw [wordOfBytes_getLsbD]
  simp only [BitVec.getLsbD_extractLsb']
  by_cases h3 : i < 8
  · simp [h3]
  · by_cases h2 : i < 16
    · simp [h3, h2, show i - 8 < 8 ∧ 8 + (i - 8) = i by omega]
    · by_cases h1 : i < 24
      · simp [h3, h2, h1, show i - 16 < 8 ∧ 16 + (i - 16) = i by omega]
      · simp [h3, h2, h1, show i - 24 < 8 ∧ 24 + (i - 24) = i by omega]

theorem windowOffset_inside (a : BitVec 6) : windowOffset (Config.xteaBase + a.toNat) = some a := by
  have hlt : a.toNat < 64 := a.isLt
  have hin : Config.xteaBase ≤ Config.xteaBase + a.toNat ∧
      Config.xteaBase + a.toNat < Config.xteaBase + Config.windowBytes :=
    ⟨Nat.le_add_right _ _, Nat.add_lt_add_left hlt _⟩
  rw [windowOffset, if_pos hin, Nat.add_sub_cancel_left, BitVec.ofNat_toNat, BitVec.setWidth_eq]

theorem windowOffset_outside (addr : Nat) (h : addr < Config.xteaBase ∨ Config.xteaBase + 64 ≤ addr) :
    windowOffset addr = none := by
  rw [windowOffset, if_neg]
  rintro ⟨hlow, hhigh⟩
  exact h.elim (Nat.not_lt.2 hlow) (Nat.not_le.2 hhigh)

end Sys2Proof.Machine
end

section
/-! PROOFS. The block's bytes, the window's addresses and the transform's known values (20_memory.md, 00_scope.md section 4,
40_transform.md). -/

namespace Sys2Proof.Proofs.DataLayout

open Sys2Proof Sys2Proof.Machine

/-- Settles O58: the layout of a word, bit by bit, in both directions. -/
theorem blockBytesAreBigEndian : Obligations.BlockBytesAreBigEndian := by
  refine ⟨fun b => ⟨wordOfBytes_eq_shifts _ _ _ _, wordOfBytes_eq_shifts _ _ _ _, ?_⟩, fun v => ⟨rfl, rfl, rfl, rfl, ?_⟩⟩
  · obtain ⟨h0, h1, h2, h3⟩ := wordOfBytes_extract b.b0 b.b1 b.b2 b.b3
    obtain ⟨h4, h5, h6, h7⟩ := wordOfBytes_extract b.b4 b.b5 b.b6 b.b7
    simp only [Block.toBytes, BlockBytes.toBlock, h0, h1, h2, h3, h4, h5, h6, h7]
  · simp only [Block.toBytes, BlockBytes.toBlock, wordOfBytes_of_extracts]

/-- Settles O59: inside the window the offset is the distance from the base; outside there is none. -/
theorem windowAddressesAreBasePlusOffset : Obligations.WindowAddressesAreBasePlusOffset := by
  refine ⟨Nat.dvd_mul_right 64 _, fun a v => ?_, fun addr v h => ?_⟩
  · simp only [memRead, memWrite, windowOffset_inside, Option.map_some, and_self]
  · simp only [memRead, memWrite, windowOffset_outside addr h, Option.map_none, and_self]

/-- Settles O37: the source's vector is computed once, and its inverse is R108's; the final sum is the one that encipher
starts from. -/
theorem encipherKnownValues : Obligations.EncipherKnownValues := by
  have hvector : encipher 32#32 ⟨0#32, 0#32⟩ ⟨0#32, 0#32, 0#32, 0#32⟩ = ⟨0xDEE9D4D8#32, 0xF7131ED9#32⟩ := by decide
  refine ⟨fun v k => ⟨rfl, rfl⟩, hvector, ?_, rfl, rfl, fun k n v0 v1 => ?_⟩
  · rw [← hvector, decipher_encipher]
  · exact congrArg RoundState.sum (decRounds_eq_decipher n ⟨v0, v1⟩ k)

end Sys2Proof.Proofs.DataLayout
end

section
/-! SUPPORT. Which instruction changes BUSY, DONE, the error fields and the lock, and which transaction that instruction is. -/

namespace Sys2Proof.Machine

theorem EngineChange.done_cases {i : Instr} {e e' : Engine} (hc : EngineChange i e e') :
    e'.status.done = e.status.done ∨
      (∃ d : Word, i = .wrStatus d ∧ d.getLsbD 1 = true ∧ e'.status.done = false) ∨
      ∃ op, e.status.busy = false ∧ e' = e.accept op ∧ (i = .wrCmd (cmdWord op) ∨ encode i = .cmd (cmdWord op)) := by
  cases hc with
  | same | cfg | rounds | data0 | data1 | key => exact .inl rfl
  | busy | locked | illegalWord | illegalCmd => exact .inl (Status.flagError_done _ _)
  | status d =>
    cases hd : d.getLsbD 1 with
    | true => exact .inr (.inl ⟨d, rfl, hd, if_pos hd⟩)
    | false => exact .inl (if_neg (ne_true_of_eq_false hd))
  | accept op _ _ hb hi =>
    refine .inr (.inr ⟨op, hb, rfl, ?_⟩)
    cases op <;> exact hi.imp id (congrArg encode)

theorem Status.flagError_cases (p : ProtocolError) (st : Status) :
    st.flagError p = st ∨ (st.err = false ∧ (st.flagError p).err = true ∧ (st.flagError p).errCode = p.code) := by
  cases h : st.err with
  | true => exact .inl (Status.flagError_err p st h)
  | false => exact .inr ⟨rfl, Status.flagError_sets_err p st, congrArg Status.errCode (Status.flagError_clear p st h)⟩

/-- The cause of each error code that an instruction records (R202). -/
inductive ErrorCause (i : Instr) (e : Engine) : BitVec 4 → Prop where
  | illegal (hb : e.status.busy = false)
      (hi : (∃ c, i = .wrCmd c ∧ legalCmdWord c = false) ∨ ∃ c, encode i = .cmd c) : ErrorCause i e 1#4
  | busy (hb : e.status.busy = true) (hi : writesProtected i = true) : ErrorCause i e 2#4
  | locked (hb : e.status.busy = false) (hl : e.cfg.keyLock = true) (hi : writesKey i = true) : ErrorCause i e 3#4

/-- `flag_error` keeps the error fields, or records a code that has a cause. -/
theorem flagError_err_cases {i : Instr} {e : Engine} (p : ProtocolError) (h : ErrorCause i e p.code) :
    ((e.flagError p).status.err = e.status.err ∧ (e.flagError p).status.errCode = e.status.errCode) ∨
      (e.status.err = false ∧ (e.flagError p).status.err = true ∧ ErrorCause i e (e.flagError p).status.errCode) := by
  obtain hsame | ⟨hclear, hset, hcode⟩ := Status.flagError_cases p e.status
  · exact .inl ⟨congrArg Status.err hsame, congrArg Status.errCode hsame⟩
  · exact .inr ⟨hclear, hset, hcode ▸ h⟩

theorem EngineChange.err_cases {i : Instr} {e e' : Engine} (hc : EngineChange i e e') :
    (e'.status.err = e.status.err ∧ e'.status.errCode = e.status.errCode) ∨
      (e.status.err = false ∧ e'.status.err = true ∧ ErrorCause i e e'.status.errCode) ∨
      ∃ d : Word, i = .wrStatus d ∧ d.getLsbD 2 = true ∧ e'.status.err = false ∧ e'.status.errCode = 0#4 := by
  cases hc with
  | same | cfg | rounds | data0 | data1 | key | accept => exact .inl ⟨rfl, rfl⟩
  | busy _ _ hb hi => exact (flagError_err_cases .writeWhileBusy (.busy hb hi)).imp_right .inl
  | locked _ _ hb hl hi => exact (flagError_err_cases .keyLocked (.locked hb hl hi)).imp_right .inl
  | illegalWord c _ hb hill => exact (flagError_err_cases .illegalCmd (.illegal hb (.inl ⟨c, rfl, hill⟩))).imp_right .inl
  | illegalCmd c _ hb => exact (flagError_err_cases .illegalCmd (.illegal hb (.inr ⟨c, rfl⟩))).imp_right .inl
  | status d =>
    cases hd : d.getLsbD 2 with
    | true => exact .inr (.inr ⟨d, rfl, hd, e.status.write_clears_err hd⟩)
    | false => exact .inl (e.status.write_keeps_err hd)

/-- KEY_LOCK is write-one-to-set, and a locked key is not written (R40 item 6). -/
theorem EngineChange.keeps_lock {i : Instr} {e e' : Engine} (hc : EngineChange i e e') (hl : e.cfg.keyLock = true) :
    e'.cfg.keyLock = true ∧ e'.key = e.key := by
  cases hc with
  | same | busy | locked | illegalWord | illegalCmd | status | rounds | data0 | data1 | accept => exact ⟨hl, rfl⟩
  | cfg d => exact ⟨by simp [Cfg.write, hl], rfl⟩
  | key _ _ _ _ hunlocked => simp [hl] at hunlocked

theorem writesProtected_cases (i : Instr) (h : writesProtected i = true) :
    (∃ c, encode i = .cmd c) ∨ ∃ r ∈ busyRegs, ∃ d, i = writeInstr d r := by
  cases i with
  | nop | enc | dec | illegalCmd => exact .inl ⟨_, rfl⟩
  | wrCmd d => exact .inr ⟨.cmd, by decide, d, rfl⟩
  | wrRounds d => exact .inr ⟨.rounds, by decide, d, rfl⟩
  | wrKey0 d => exact .inr ⟨.key0, by decide, d, rfl⟩
  | wrKey1 d => exact .inr ⟨.key1, by decide, d, rfl⟩
  | wrKey2 d => exact .inr ⟨.key2, by decide, d, rfl⟩
  | wrKey3 d => exact .inr ⟨.key3, by decide, d, rfl⟩
  | wrData0 d => exact .inr ⟨.data0, by decide, d, rfl⟩
  | wrData1 d => exact .inr ⟨.data1, by decide, d, rfl⟩
  | _ => cases h

theorem writesKey_cases (i : Instr) (h : writesKey i = true) : ∃ r ∈ keyRegs, ∃ d, i = writeInstr d r := by
  cases i with
  | wrKey0 d => exact ⟨.key0, by decide, d, rfl⟩
  | wrKey1 d => exact ⟨.key1, by decide, d, rfl⟩
  | wrKey2 d => exact ⟨.key2, by decide, d, rfl⟩
  | wrKey3 d => exact ⟨.key3, by decide, d, rfl⟩
  | _ => cases h

/-- A decoded register write is that write on the bus. -/
theorem State.presents.wr_of_decodeTxn {s : State} {x : Txn} {i : Instr} (hp : s.presents x) (hd : decodeTxn x = .ok i)
    {r : Reg} {d : Word} (hi : i = writeInstr d r) : s.presents (wr r d) := by
  obtain rfl : x = wr r d := eq_wr_of_decodeTxn hd (hi ▸ encode_writeInstr d r)
  exact hp

/-- The transaction behind each recorded code. -/
theorem ErrorCause.transaction {s : State} {x : Txn} {i : Instr} {code : BitVec 4} (h : ErrorCause i s.engine code)
    (hp : s.presents x) (hd : decodeTxn x = .ok i) :
    ∃ (r : Reg) (d : Word), s.presents (wr r d) ∧
      ((code = 1#4 ∧ s.engine.status.busy = false ∧ r = .cmd ∧ legalCmdWord d = false) ∨
       (code = 2#4 ∧ s.engine.status.busy = true ∧ r ∈ busyRegs) ∨
       (code = 3#4 ∧ s.engine.status.busy = false ∧ s.engine.cfg.keyLock = true ∧ r ∈ keyRegs)) := by
  cases h with
  | illegal hb hi =>
    obtain ⟨c, hi, hill⟩ | ⟨c, hi⟩ := hi
    · exact ⟨.cmd, c, hp.wr_of_decodeTxn hd hi, .inl ⟨rfl, hb, rfl, hill⟩⟩
    · exact absurd hi (encode_ne_cmd_of_decodeTxn hd c)
  | busy hb hi =>
    obtain ⟨c, hi⟩ | ⟨r, hr, d, hi⟩ := writesProtected_cases i hi
    · exact absurd hi (encode_ne_cmd_of_decodeTxn hd c)
    · exact ⟨r, d, hp.wr_of_decodeTxn hd hi, .inr (.inl ⟨rfl, hb, hr⟩)⟩
  | locked hb hl hi =>
    obtain ⟨r, hr, d, hi⟩ := writesKey_cases i hi
    exact ⟨r, d, hp.wr_of_decodeTxn hd hi, .inr (.inr ⟨rfl, hb, hl, hr⟩)⟩

/-- An instruction on the bus that means an acceptance is the write of its command word. -/
theorem acceptsNext_of_decodeTxn {s : State} {x : Txn} {i : Instr} {op : Op} (hp : s.presents x)
    (hd : decodeTxn x = .ok i) (hb : s.engine.status.busy = false)
    (hi : i = .wrCmd (cmdWord op) ∨ encode i = .cmd (cmdWord op)) : s.acceptsNext op :=
  ⟨hb, hp.wr_of_decodeTxn hd (r := .cmd) (hi.resolve_right (encode_ne_cmd_of_decodeTxn hd _))⟩

/-- The command of an operation. -/
def opInstr : Op → Instr
  | .enc => .enc
  | .dec => .dec

theorem decodeCmd_cmdWord (op : Op) : decodeCmd (cmdWord op) = opInstr op := by
  cases op <;> rfl

/-- In an idle engine the command of an operation is its acceptance (R132, R133). -/
theorem exec_opInstr_idle (op : Op) (s : State) (hb : s.engine.status.busy = false) :
    exec (opInstr op) s = .next (s.afterWrite (s.engine.accept op)) := by
  cases op with
  | enc => exact exec_enc_idle s hb
  | dec => exact exec_dec_idle s hb

/-- So is the write of its command word (R74). -/
theorem exec_wrCmd_op_idle (op : Op) (s : State) (hb : s.engine.status.busy = false) :
    exec (.wrCmd (cmdWord op)) s = .next (s.afterWrite (s.engine.accept op)) := by
  rw [exec_wrCmd_eq_exec_decodeCmd, decodeCmd_cmdWord, exec_opInstr_idle op s hb]

theorem step_of_acceptsNext {s : State} {op : Op} (h : s.acceptsNext op) :
    ∃ t, step s = .next t ∧ t.engine = s.engine.accept op ∧ t.rstN = true ∧ t.agenda = s.agenda.tail := by
  obtain ⟨hb, hr, m, rest, ha⟩ := h
  have hstep := step_of_decodeTxn hr ha (decodeTxn_wr .cmd (cmdWord op))
  exact ⟨_, hstep.trans (exec_wrCmd_op_idle op _ hb), rfl, hr, by rw [ha]; rfl⟩

theorem step_of_completesNext {s : State} (h : s.completesNext) :
    step s = .next { s with engine := s.engine.completionStep, resp := none, agenda := s.agenda.tail } := by
  obtain ⟨hm, hb, hc⟩ := h
  rw [step_of_engineMoves hm, Engine.agentStep_complete _ hb hc]

theorem step_of_presents_status {s : State} {d : Word} (h : s.presents (wr .status d)) :
    ∃ t, step s = .next t ∧ t.engine = s.engine.setStatus (s.engine.status.write d) := by
  obtain ⟨hr, m, rest, ha⟩ := h
  exact ⟨_, step_of_decodeTxn hr ha (decodeTxn_wr .status d), rfl⟩

end Sys2Proof.Machine
end

section
/-! PROOFS. What changes each field, over every step (10_state.md section 4, R39, R40 item 6). -/

namespace Sys2Proof.Proofs.FieldChanges

open Sys2Proof Sys2Proof.Machine

/-- Settles O27: only a transaction and a reset touch the error fields. -/
theorem errChangesOnlyByItsCauses : Obligations.ErrChangesOnlyByItsCauses := by
  intro s t h hne
  have hdiff : ¬(t.engine.status.err = s.engine.status.err ∧ t.engine.status.errCode = s.engine.status.errCode) :=
    not_and_or.2 hne
  cases step_engine_cases h with
  | txn x i hp hd hc =>
    obtain hsame | ⟨hclear, hset, hcause⟩ | ⟨d, hi, hbit, hclear⟩ := hc.err_cases
    · exact absurd hsame hdiff
    · exact .inr (.inr ⟨hclear, hset, hcause.transaction hp hd⟩)
    · exact .inr (.inl ⟨d, hp.wr_of_decodeTxn hd hi, hbit, hclear⟩)
  | complete _ he | round _ _ he | stay he => exact absurd (by rw [he]; exact ⟨rfl, rfl⟩) hdiff
  | reset hm _ => exact .inl hm

/-- Settles O48: an instruction reaches STATUS and CFG only while busy, and of the engine's steps only the completion writes
DATA. -/
theorem operandsAreStableInFlight : Obligations.OperandsAreStableInFlight := by
  intro s t h hb hreset
  cases step_engine_cases h with
  | txn x i hp hd hc =>
    obtain ⟨st, c, he, hbusy⟩ := hc.frame_of_busy hb
    rw [he]
    exact ⟨rfl, rfl, rfl, rfl, fun _ => ⟨rfl, rfl⟩, fun hidle => absurd hbusy (ne_true_of_eq_false hidle)⟩
  | complete hm he =>
    rw [he]
    have hidle : s.engine.completionStep.status.busy = false := rfl
    exact ⟨rfl, rfl, rfl, rfl, fun hbusy => absurd hbusy (ne_true_of_eq_false hidle), fun _ => ⟨hm, rfl, rfl⟩⟩
  | round _ _ he | stay he =>
    rw [he]
    exact ⟨rfl, rfl, rfl, rfl, fun _ => ⟨rfl, rfl⟩, fun hidle => absurd hb (ne_true_of_eq_false hidle)⟩
  | reset hm _ => exact absurd hm hreset

/-- Settles O50: of an instruction's changes only an acceptance sets BUSY, and what clears it is O48's. -/
theorem busyChangesOnlyByAcceptanceAndCompletion : Obligations.BusyChangesOnlyByAcceptanceAndCompletion := by
  refine ⟨fun s t h => ⟨fun hidle hbusy => ?_, fun hbusy hidle => ?_⟩, fun s op h => ?_, fun s h => ?_⟩
  · cases step_engine_cases h with
    | txn x i hp hd hc =>
      obtain hidle' | ⟨op, -, hi⟩ := hc.idle_cases hidle
      · exact absurd hbusy (ne_true_of_eq_false hidle')
      · exact ⟨op, acceptsNext_of_decodeTxn hp hd hidle hi⟩
    | complete _ he | reset _ he => rw [he] at hbusy; cases hbusy
    | round hb _ _ => exact absurd hb (ne_true_of_eq_false hidle)
    | stay he => rw [he] at hbusy; exact absurd hbusy (ne_true_of_eq_false hidle)
  · by_cases hreset : s.resetsNext
    · exact .inr hreset
    · obtain ⟨-, -, -, -, -, hcomplete⟩ := operandsAreStableInFlight s t h hbusy hreset
      exact .inl (hcomplete hidle).1
  · obtain ⟨t, ht, he, -⟩ := step_of_acceptsNext h
    exact ⟨t, ht, by rw [he]; rfl⟩
  · obtain hm | hm := h
    · exact ⟨_, step_of_completesNext hm, rfl⟩
    · exact ⟨_, step_of_resetsNext hm, rfl⟩

/-- Settles O51: an instruction changes DONE only by an acceptance or by WR STATUS. -/
theorem doneChangesOnlyByItsEvents : Obligations.DoneChangesOnlyByItsEvents := by
  refine ⟨fun s t h => ⟨fun hclear hset => ?_, fun hset hclear => ?_⟩, fun s h => ?_, fun s h => ?_⟩
  · cases step_engine_cases h with
    | txn x i hp hd hc =>
      obtain hsame | ⟨_, _, _, hclear'⟩ | ⟨op, _, he, _⟩ := hc.done_cases
      · exact absurd hset (by simp [hsame, hclear])
      · exact absurd hset (by simp [hclear'])
      · rw [he] at hset; cases hset
    | complete hm _ => exact hm
    | reset _ he => rw [he] at hset; cases hset
    | round _ _ he | stay he => rw [he] at hset; exact absurd hset (ne_true_of_eq_false hclear)
  · cases step_engine_cases h with
    | txn x i hp hd hc =>
      obtain hsame | ⟨d, hi, hbit, _⟩ | ⟨op, hb, _, hi⟩ := hc.done_cases
      · exact absurd hset (by simp [← hsame, hclear])
      · exact .inr (.inl ⟨d, hp.wr_of_decodeTxn hd hi, hbit⟩)
      · exact .inl ⟨op, acceptsNext_of_decodeTxn hp hd hb hi⟩
    | complete _ he => rw [he] at hclear; cases hclear
    | reset hm _ => exact .inr (.inr hm)
    | round _ _ he | stay he => rw [he] at hclear; exact absurd hset (ne_true_of_eq_false hclear)
  · exact ⟨_, step_of_completesNext h, rfl⟩
  · obtain ⟨op, hm⟩ | ⟨d, hm, hbit⟩ | hm := h
    · obtain ⟨t, ht, he, -⟩ := step_of_acceptsNext hm
      exact ⟨t, ht, by rw [he]; rfl⟩
    · obtain ⟨t, ht, he⟩ := step_of_presents_status hm
      exact ⟨t, ht, by rw [he]; exact if_pos hbit⟩
    · exact ⟨_, step_of_resetsNext hm, rfl⟩

/-- Settles O52: no step of the engine agent writes CFG or a key. -/
theorem keyLockHoldsUntilReset : Obligations.KeyLockHoldsUntilReset := by
  intro s t h hlock hreset
  cases step_engine_cases h with
  | txn x i _ _ hc => exact hc.keeps_lock hlock
  | complete _ he | round _ _ he | stay he => rw [he]; exact ⟨hlock, rfl⟩
  | reset hm _ => exact absurd hm hreset

end Sys2Proof.Proofs.FieldChanges
end

section
/-! SUPPORT. An operation from its acceptance to its completion: over every interleaving without a reset (R136), and with the
engine alone moving (R137). -/

namespace Sys2Proof.Machine

/-- `f` is the engine with the operation `op` in flight that `e` accepted: the operands are those of `e` (R39), and the running
values are rounds of them. -/
structure InFlight (op : Op) (e f : Engine) : Prop where
  busy : f.status.busy = true
  op_eq : f.op = op
  rounds : f.rounds = e.rounds
  key : f.key = e.key
  block : f.block = e.block
  work : f.WorkInv

theorem inFlight_accept (op : Op) (e : Engine) : InFlight op e (e.accept op) :=
  ⟨rfl, rfl, rfl, rfl, rfl, e.accept_workInv op⟩

theorem InFlight.change {op : Op} {e f f' : Engine} {i : Instr} (h : InFlight op e f) (hc : EngineChange i f f') :
    InFlight op e f' := by
  have hwork := h.work.change hc
  obtain ⟨st, c, rfl, hbusy⟩ := hc.frame_of_busy h.busy
  exact ⟨hbusy, h.op_eq, h.rounds, h.key, h.block, hwork⟩

theorem InFlight.round {op : Op} {e f : Engine} (h : InFlight op e f) (hlt : f.cnt < f.n) : InFlight op e f.roundStep :=
  ⟨h.busy, h.op_eq, h.rounds, h.key, h.block, h.work.round hlt⟩

theorem InFlight.n_eq {op : Op} {e f : Engine} (h : InFlight op e f) : f.n = e.rounds :=
  (h.work h.busy).1.trans h.rounds

/-- With `cnt` = `n` all the rounds are done: the completion step writes the transform of the operands (R136). -/
theorem InFlight.complete {op : Op} {e f : Engine} (h : InFlight op e f) (hc : f.cnt = f.n) :
    f.completionStep.block = transformOf op e.rounds e.block e.key := by
  obtain ⟨-, hwork⟩ := h.work h.busy
  calc f.completionStep.block = f.work.block := rfl
    _ = transformOf f.op f.n f.block f.key := by rw [hwork, hc, transformOf_eq]; rfl
    _ = transformOf op e.rounds e.block e.key := by rw [h.op_eq, h.n_eq, h.block, h.key]

/-- Out of reset, and no reset to come. -/
def State.NoReset (s : State) : Prop := s.rstN = true ∧ Event.resetLow ∉ s.agenda

theorem State.NoReset.not_resetsNext {s : State} (h : s.NoReset) : ¬s.resetsNext := by
  rintro (⟨rest, ha⟩ | ⟨hr, -⟩)
  · exact h.2 (by simp [ha])
  · exact ne_true_of_eq_false hr h.1

theorem State.NoReset.step {s t : State} (h : s.NoReset) (hstep : step s = .next t) : t.NoReset := by
  suffices ht : t.rstN = true ∧ t.agenda = s.agenda.tail from
    ⟨ht.1, fun hmem => h.2 (List.mem_of_mem_tail (ht.2 ▸ hmem))⟩
  cases step_cases s t hstep with
  | host m x rest i ha hr hd he =>
    have hframe := (exec_next he).1
    exact ⟨hframe.rstN.trans hr, by rw [hframe.agenda, ha]; rfl⟩
  | engine _ _ _ hr ha => exact ⟨hr, ha⟩
  | reset hm => exact absurd hm h.not_resetsNext
  | release rest ha _ _ hr hg => exact ⟨hr, by rw [hg, ha]; rfl⟩

/-- Each step leaves the operation in flight, or completes it. -/
theorem InFlight.step {op : Op} {e : Engine} {s t : State} (h : InFlight op e s.engine) (hs : ¬s.resetsNext)
    (hstep : step s = .next t) :
    InFlight op e t.engine ∨
      (t.engine.status.busy = false ∧ t.engine.block = transformOf op e.rounds e.block e.key ∧
        t.engine.status.done = true) := by
  cases step_engine_cases hstep with
  | txn x i _ _ hc => exact .inl (h.change hc)
  | complete hm he =>
    obtain ⟨-, -, hc⟩ := hm
    exact .inr ⟨he ▸ rfl, he ▸ h.complete hc, he ▸ rfl⟩
  | round _ hlt he => exact .inl (he ▸ h.round hlt)
  | reset hm _ => exact absurd hm hs
  | stay he => exact .inl (he ▸ h)

theorem step_of_run_one {s t : State} (h : core.run 1 s = .next t) : step s = .next t := by
  obtain ⟨u, hu, hrun⟩ := core_run_cases 0 s t h
  cases hrun
  exact hu

theorem run_one_of_step {s t : State} (h : step s = .next t) : core.run 1 s = .next t :=
  core_run_succ 0 s t h

/-- A run with one more step at its end. -/
theorem run_snoc {m : Nat} {s u t : State} (h : core.run m s = .next u) (hstep : step u = .next t) :
    core.run (m + 1) s = .next t := by
  induction m generalizing s with
  | zero => cases h; exact run_one_of_step hstep
  | succ m ih =>
    obtain ⟨w, hw, hrun⟩ := core_run_cases m s u h
    exact (core_run_succ (m + 1) s w hw).trans (ih hrun)

/-- The first state after which an operation in flight is no longer busy holds its result. -/
theorem InFlight.result {op : Op} {e : Engine} {j : Nat} {s t : State} (h : InFlight op e s.engine) (hs : s.NoReset)
    (hbusy : ∀ i < j, ∃ u : State, core.run (i + 1) s = .next u ∧ u.engine.status.busy = true)
    (hrun : core.run (j + 1) s = .next t) (hidle : t.engine.status.busy = false) :
    t.engine.block = transformOf op e.rounds e.block e.key ∧ t.engine.status.done = true := by
  induction j generalizing s with
  | zero =>
    obtain hflight | ⟨-, hdone⟩ := h.step hs.not_resetsNext (step_of_run_one hrun)
    · exact absurd hflight.busy (ne_true_of_eq_false hidle)
    · exact hdone
  | succ j ih =>
    obtain ⟨u, hstep, hrest⟩ := core_run_cases (j + 1) s t hrun
    have hlater : ∀ i < j, ∃ w : State, core.run (i + 1) u = .next w ∧ w.engine.status.busy = true := by
      intro i hi
      obtain ⟨w, hw, hwb⟩ := hbusy (i + 1) (by omega)
      exact ⟨w, (core_run_succ (i + 1) s u hstep).symm.trans hw, hwb⟩
    have hu : u.engine.status.busy = true := by
      obtain ⟨w, hw, hwb⟩ := hbusy 0 (by omega)
      cases hstep.symm.trans (step_of_run_one hw)
      exact hwb
    obtain hflight | ⟨hidle', -⟩ := h.step hs.not_resetsNext hstep
    · exact ih hflight (hs.step hstep) hlater hrest
    · exact absurd hu (ne_true_of_eq_false hidle')

/-- Nothing is on the agenda, and the engine is in round `m` of the operation that `e` accepted, with no other field of `e`
changed. -/
structure RunsAlone (op : Op) (e : Engine) (m : Nat) (s : State) : Prop where
  flight : InFlight op e s.engine
  cnt : s.engine.cnt.toNat = m
  status : s.engine.status = { e.status with busy := true, done := false }
  cfg : s.engine.cfg = e.cfg
  rstN : s.rstN = true
  agenda : s.agenda = []

/-- Nothing is on the agenda, and the operation that `e` accepted is completed, with no other field of `e` changed. -/
structure Completed (op : Op) (e : Engine) (s : State) : Prop where
  block : s.engine.block = transformOf op e.rounds e.block e.key
  status : s.engine.status = { e.status with busy := false, done := true }
  cfg : s.engine.cfg = e.cfg
  rounds : s.engine.rounds = e.rounds
  key : s.engine.key = e.key
  rstN : s.rstN = true
  agenda : s.agenda = []

theorem RunsAlone.engineMoves {op : Op} {e : Engine} {m : Nat} {s : State} (h : RunsAlone op e m s) : s.engineMoves :=
  ⟨h.rstN, .inl h.agenda⟩

theorem RunsAlone.round {op : Op} {e : Engine} {m : Nat} {s : State} (h : RunsAlone op e m s) (hm : m < e.rounds.toNat) :
    ∃ t, step s = .next t ∧ RunsAlone op e (m + 1) t := by
  have hlt : s.engine.cnt < s.engine.n := by
    rw [BitVec.lt_def, h.cnt, h.flight.n_eq]
    exact hm
  refine ⟨_, step_of_engineMoves h.engineMoves, ?_⟩
  rw [Engine.agentStep_round _ h.flight.busy hlt, h.agenda]
  exact ⟨h.flight.round hlt, (Engine.cnt_succ hlt).trans (congrArg (· + 1) h.cnt), h.status, h.cfg, h.rstN, rfl⟩

theorem RunsAlone.complete {op : Op} {e : Engine} {s : State} (h : RunsAlone op e e.rounds.toNat s) :
    ∃ t, step s = .next t ∧ Completed op e t := by
  have hc : s.engine.cnt = s.engine.n := BitVec.eq_of_toNat_eq (by rw [h.cnt, h.flight.n_eq])
  refine ⟨_, step_of_completesNext ⟨h.engineMoves, h.flight.busy, hc⟩, ?_⟩
  rw [h.agenda]
  refine ⟨h.flight.complete hc, ?_, h.cfg, h.flight.rounds, h.flight.key, h.rstN, rfl⟩
  simp [Engine.completionStep, h.status]

/-- From the acceptance on, each of the first `n` steps is a round (R137). -/
theorem RunsAlone.run {op : Op} {e : Engine} {s : State} (h : RunsAlone op e 0 s) (m : Nat) (hm : m ≤ e.rounds.toNat) :
    ∃ u, core.run m s = .next u ∧ RunsAlone op e m u := by
  induction m with
  | zero => exact ⟨s, rfl, h⟩
  | succ m ih =>
    obtain ⟨u, hrun, hu⟩ := ih (by omega)
    obtain ⟨t, hstep, ht⟩ := hu.round (by omega)
    exact ⟨t, run_snoc hrun hstep, ht⟩

theorem RunsAlone.run_complete {op : Op} {e : Engine} {s : State} (h : RunsAlone op e 0 s) :
    ∃ t, core.run (e.rounds.toNat + 1) s = .next t ∧ Completed op e t := by
  obtain ⟨u, hrun, hu⟩ := h.run e.rounds.toNat (Nat.le_refl _)
  obtain ⟨t, hstep, ht⟩ := hu.complete
  exact ⟨t, run_snoc hrun hstep, ht⟩

/-- An acceptance in an idle engine with nothing on the agenda. -/
theorem exec_opInstr_runsAlone (op : Op) (s : State) (hr : s.rstN = true) (ha : s.agenda = [])
    (hb : s.engine.status.busy = false) : ∃ t, exec (opInstr op) s = .next t ∧ RunsAlone op s.engine 0 t :=
  ⟨_, exec_opInstr_idle op s hb, inFlight_accept op _, rfl, rfl, rfl, hr, ha⟩

/-- A whole operation with nothing interleaved. -/
theorem operation_completes (op : Op) (s : State) (hr : s.rstN = true) (ha : s.agenda = [])
    (hb : s.engine.status.busy = false) :
    ∃ s1 t, exec (opInstr op) s = .next s1 ∧ RunsAlone op s.engine 0 s1 ∧
      core.run (s.engine.rounds.toNat + 1) s1 = .next t ∧ Completed op s.engine t := by
  obtain ⟨s1, hexec, halone⟩ := exec_opInstr_runsAlone op s hr ha hb
  obtain ⟨t, hrun, hdone⟩ := halone.run_complete
  exact ⟨s1, t, hexec, halone, hrun, hdone⟩

theorem Completed.idle {op : Op} {e : Engine} {s : State} (h : Completed op e s) : s.engine.status.busy = false := by
  rw [h.status]

theorem Completed.done {op : Op} {e : Engine} {s : State} (h : Completed op e s) : s.engine.status.done = true := by
  rw [h.status]

/-- One operation straight after another, with the same key and round count. -/
theorem Completed.next_operation {op : Op} {e : Engine} {s : State} (h : Completed op e s) (op' : Op) :
    ∃ s1 t, exec (opInstr op') s = .next s1 ∧ core.run (e.rounds.toNat + 1) s1 = .next t ∧
      t.engine.block = transformOf op' e.rounds (transformOf op e.rounds e.block e.key) e.key ∧
      t.engine.status.done = true := by
  obtain ⟨s1, t, hexec, -, hrun, ht⟩ := operation_completes op' s h.rstN h.agenda h.idle
  have hblock := ht.block
  rw [h.rounds] at hrun
  rw [h.rounds, h.block, h.key] at hblock
  exact ⟨s1, t, hexec, hrun, hblock, ht.done⟩

/-- A transaction with the completion step due and the engine's move after it: the completion then writes `w0` and `w1` into
what the transaction left (R206). -/
theorem txn_then_complete {s : State} {m : Nat} {x : Txn} {i : Instr} {rest : List Event} (hr : s.rstN = true)
    (hb : s.engine.status.busy = true) (hc : s.engine.cnt = s.engine.n) (ha : s.agenda = .txn m x :: .engine :: rest)
    (hd : decodeTxn x = .ok i) :
    ∃ t u : State, exec i { s with agenda := .engine :: rest, issuer := m } = .next t ∧ core.run 1 s = .next t ∧
      t.engine.status.busy = true ∧ core.run 2 s = .next u ∧ u.agenda = rest ∧
      u.engine = { t.engine with
        data0 := s.engine.w0, data1 := s.engine.w1
        status := { t.engine.status with busy := false, done := true } } := by
  obtain ⟨t, hexec, hframe, hchange⟩ := exec_cases i { s with agenda := .engine :: rest, issuer := m }
  have hrun : core.run 1 s = .next t := run_one_of_step ((step_of_decodeTxn hr ha hd).trans hexec)
  obtain ⟨st, c, he, hbusy⟩ := hchange.frame_of_busy hb
  have hnext : t.completesNext :=
    ⟨⟨hframe.rstN.trans hr, .inr ⟨rest, hframe.agenda⟩⟩, by rw [he]; exact hbusy, by rw [he]; exact hc⟩
  refine ⟨t, _, hexec, hrun, hnext.2.1, run_snoc hrun (step_of_completesNext hnext), ?_, ?_⟩
  · rw [hframe.agenda]
    rfl
  · rw [he]
    rfl

end Sys2Proof.Machine
end

section
/-! PROOFS. Operations from acceptance to completion (41_commands.md section 3, 60_exceptions.md section 2). -/

namespace Sys2Proof.Proofs.Operations

open Sys2Proof Sys2Proof.Machine

/-- Settles O45: the acceptance puts the operation in flight, and every step but a reset keeps it in flight or completes it. -/
theorem resultUnderEveryInterleaving : Obligations.ResultUnderEveryInterleaving := by
  intro op s t j hacc hreset hbusy hrun hidle
  obtain ⟨s1, hstep, he, hr, ha⟩ := step_of_acceptsNext hacc
  have hflight : InFlight op s.engine s1.engine := he ▸ inFlight_accept op s.engine
  have hs1 : s1.NoReset := ⟨hr, fun hmem => hreset (List.mem_of_mem_tail (ha ▸ hmem))⟩
  cases j with
  | zero =>
    cases hstep.symm.trans (step_of_run_one hrun)
    exact absurd hflight.busy (ne_true_of_eq_false hidle)
  | succ j =>
    refine hflight.result hs1 (fun i hi => ?_) ((core_run_succ (j + 1) s s1 hstep).symm.trans hrun) hidle
    obtain ⟨u, hu, hub⟩ := hbusy (i + 1) (by omega)
    exact ⟨u, (core_run_succ (i + 1) s s1 hstep).symm.trans hu, hub⟩

/-- Settles O46: the engine alone takes `n` rounds and then completes. -/
theorem operationCompletesAfterItsRounds : Obligations.OperationCompletesAfterItsRounds := by
  intro op s hr ha hb
  obtain ⟨s1, t, hexec, halone, hrun, ht⟩ := operation_completes op s hr ha hb
  refine ⟨s1, t, by cases op <;> exact hexec, fun i hi => ?_, hrun, ht.block, ht.status, ht.cfg, ht.rounds, ht.key⟩
  obtain ⟨u, hu, hrounds⟩ := halone.run i hi
  exact ⟨u, hu, hrounds.flight.busy, by rw [hrounds.status], hrounds.flight.block⟩

/-- Settles O47: two operations in a row, and decipher undoes encipher. -/
theorem decAfterEncRestoresTheBlock : Obligations.DecAfterEncRestoresTheBlock := by
  intro s hr ha hb
  obtain ⟨s1, s2, henc, -, hrun, h2⟩ := operation_completes .enc s hr ha hb
  obtain ⟨s3, s4, hdec, hrun', hblock, hdone⟩ := h2.next_operation .dec
  obtain ⟨s5, s6, henc', hrun'', hblock', -⟩ := h2.next_operation .enc
  exact ⟨s1, s2, s3, s4, s5, s6, henc, hrun, hdec, hrun', hblock.trans (decipher_encipher _ _ _), hdone, henc', hrun'',
    hblock'⟩

/-- Settles O57: the transaction runs on the state before the completion, so that its outcome there is the known one. -/
theorem transactionBeforeCompletionSeesTheOldState : Obligations.TransactionBeforeCompletionSeesTheOldState := by
  intro s m rest hr hb hc
  refine ⟨fun x ha => ?_, fun d r hreg ha => ?_, fun r hreg ha => ?_⟩
  · obtain ⟨i, hd, -⟩ := decodeTxn_total x
    obtain ⟨t, u, hexec, hrest⟩ := txn_then_complete hr hb hc ha hd
    exact ⟨t, u, (hostStep_of_decodeTxn (s := { s with agenda := .engine :: rest }) m hr hd).trans hexec, hrest⟩
  · have hprot : writesProtected (writeInstr d r) = true := by
      refine writesProtected_writeInstr r d ?_
      revert r
      simp [busyRegs]
    obtain ⟨t, u, hexec, hrun, -, hrun', -, hu⟩ := txn_then_complete hr hb hc ha (decodeTxn_wr r d)
    cases hexec.symm.trans (exec_protected_busy _ _ hprot hb)
    exact ⟨_, u, hrun, rfl, hrun', hu⟩
  · obtain ⟨t, u, hexec, hrun, -, hrun', -, hu⟩ := txn_then_complete hr hb hc ha (decodeTxn_rd r)
    cases hexec.symm.trans (exec_readInstr r _)
    refine ⟨_, u, hrun, hrun', ?_⟩
    rw [hu]
    exact ⟨rfl, rfl, rfl, rfl, by rintro rfl; rfl, by rintro rfl; rfl, by rintro rfl; rfl⟩

end Sys2Proof.Proofs.Operations
end

section
/-! SUPPORT. Every instruction is one of the shared operations of R150, so that what holds of each of those holds of `exec`. -/

namespace Sys2Proof.Machine

/-- The changes that an accepted write makes to the engine. -/
inductive Update : (Engine → Engine) → Prop where
  | keep : Update fun e => e
  | flagError (p : ProtocolError) : Update (Engine.flagError p)
  | status (d : Word) : Update fun e => e.setStatus (e.status.write d)
  | cfg (d : Word) : Update fun e => e.setCfg (e.cfg.write d)
  | rounds (d : Word) : Update fun e => e.setRounds d
  | data0 (d : Word) : Update fun e => e.setData0 d
  | data1 (d : Word) : Update fun e => e.setData1 d
  | key (g : Key → Key) : Update fun e => e.setKey (g e.key)
  | accept (op : Op) : Update (Engine.accept op)

/-- The shared operations of the transactions (R150). -/
inductive SharedOp : (State → StepOutcome) → Prop where
  | read (r : Reg) : SharedOp (readReg r)
  | busError (c : BusCause) : SharedOp (busError c)
  | write (f : Engine → Engine) (hf : Update f) : SharedOp fun s => acceptWrite (f s.engine) s
  | whenIdle (f : Engine → Engine) (hf : Update f) : SharedOp (writeWhenIdle f)
  | keyWrite (g : Key → Key) : SharedOp (writeKeyWhenUnlocked g)

theorem exec_sharedOp (i : Instr) : SharedOp (exec i) := by
  cases i with
  | buserrPartialBe0 | buserrPartialBe1 | buserrPartialBe2 | buserrPartialBe3 => exact .busError .partialAccess
  | buserrMisalignedAddr0 | buserrMisalignedAddr1 => exact .busError .misaligned
  | buserrUnmapped14 | buserrUnmapped18 | buserrUnmapped1C | buserrUnmapped38 | buserrUnmapped3C =>
    exact .busError .unmapped
  | wrId => exact .busError .readOnly
  | rdId => exact .read .id
  | rdCmd => exact .read .cmd
  | rdStatus => exact .read .status
  | rdCfg => exact .read .cfg
  | rdRounds => exact .read .rounds
  | rdKey0 => exact .read .key0
  | rdKey1 => exact .read .key1
  | rdKey2 => exact .read .key2
  | rdKey3 => exact .read .key3
  | rdData0 => exact .read .data0
  | rdData1 => exact .read .data1
  | wrStatus d => exact .write _ (.status d)
  | wrCfg d => exact .write _ (.cfg d)
  | wrRounds d => exact .whenIdle _ (.rounds d)
  | wrData0 d => exact .whenIdle _ (.data0 d)
  | wrData1 d => exact .whenIdle _ (.data1 d)
  | wrKey0 d => exact .keyWrite fun k => { k with k0 := d }
  | wrKey1 d => exact .keyWrite fun k => { k with k1 := d }
  | wrKey2 d => exact .keyWrite fun k => { k with k2 := d }
  | wrKey3 d => exact .keyWrite fun k => { k with k3 := d }
  | nop => exact .whenIdle _ .keep
  | enc => exact .whenIdle _ (.accept .enc)
  | dec => exact .whenIdle _ (.accept .dec)
  | illegalCmd => exact .whenIdle _ (.flagError .illegalCmd)
  | wrCmd c =>
    have hcmd : exec (.wrCmd c) = exec (decodeCmd c) := funext (exec_wrCmd_eq_exec_decodeCmd c)
    obtain h | h | h | h := decodeCmd_cases c <;> rw [hcmd, h]
    · exact .whenIdle _ .keep
    · exact .whenIdle _ (.accept .enc)
    · exact .whenIdle _ (.accept .dec)
    · exact .whenIdle _ (.flagError .illegalCmd)

end Sys2Proof.Machine
end

section
/-! SUPPORT. Noninterference: what an instruction answers and leaves depends on no more of the engine than a view of it that the
shared operations work in (10_state.md R24, R34; 60_exceptions.md R213). -/

namespace Sys2Proof.Machine

/-- `h` keeps what a transaction looks at, and what it hides of the engine reaches nothing that it keeps. -/
structure View (h : Engine → Engine) : Prop where
  status : ∀ e, (h e).status = e.status
  cfg : ∀ e, (h e).cfg = e.cfg
  read : ∀ e r, (h e).read r = e.read r
  update : ∀ f, Update f → ∀ e, h (f e) = h (f (h e))

theorem view_id : View id :=
  ⟨fun _ => rfl, fun _ => rfl, fun _ _ => rfl, fun _ _ _ => rfl⟩

theorem view_hideWork : View Engine.hideWork where
  status _ := rfl
  cfg _ := rfl
  read e r := by cases r <;> rfl
  update f hf e := by cases hf <;> rfl

theorem view_hideKey : View Engine.hideKey where
  status _ := rfl
  cfg _ := rfl
  read e r := by cases r <;> rfl
  update f hf e := by cases hf <;> rfl

section
variable {h : Engine → Engine} {e e' : Engine}

theorem View.status_eq (hv : View h) (he : h e = h e') : e.status = e'.status :=
  (hv.status e).symm.trans ((congrArg Engine.status he).trans (hv.status e'))

theorem View.cfg_eq (hv : View h) (he : h e = h e') : e.cfg = e'.cfg :=
  (hv.cfg e).symm.trans ((congrArg Engine.cfg he).trans (hv.cfg e'))

theorem View.read_eq (hv : View h) (he : h e = h e') (r : Reg) : e.read r = e'.read r := by
  rw [← hv.read e r, he, hv.read]

theorem View.update_eq (hv : View h) (he : h e = h e') {f : Engine → Engine} (hf : Update f) : h (f e) = h (f e') := by
  rw [hv.update f hf e, he, ← hv.update f hf e']

theorem View.irq_eq (hv : View h) (he : h e = h e') : e.irq = e'.irq := by
  rw [Engine.irq, Engine.irq, hv.status_eq he, hv.cfg_eq he]

end

/-- Two states alike in the view `h` of the engine and in what `g` tells of each host fault. -/
structure Alike {α : Type} (h : Engine → Engine) (g : HostFault → α) (s s' : State) : Prop where
  engine : h s.engine = h s'.engine
  faults : s.hostFaults.map g = s'.hostFaults.map g

/-- Two outcomes that are next states, alike and with the same bus response. -/
def SameAnswer {α : Type} (h : Engine → Engine) (g : HostFault → α) (o o' : StepOutcome) : Prop :=
  ∃ t u, o = .next t ∧ o' = .next u ∧ t.resp = u.resp ∧ Alike h g t u

section
variable {α : Type} {h : Engine → Engine} {g : HostFault → α} {s s' : State}

theorem readReg_sameAnswer (hv : View h) (hs : Alike h g s s') (r : Reg) :
    SameAnswer h g (readReg r s) (readReg r s') :=
  ⟨_, _, readReg_next r s, readReg_next r s', by rw [hv.read_eq hs.engine], hs.engine, hs.faults⟩

theorem busError_sameAnswer (hs : Alike h g s s') (c : BusCause)
    (hissuer : g { master := s.issuer, cause := c } = g { master := s'.issuer, cause := c }) :
    SameAnswer h g (busError c s) (busError c s') :=
  ⟨_, _, busError_next c s, busError_next c s', rfl, hs.engine, congrArg₂ List.cons hissuer hs.faults⟩

theorem acceptWrite_sameAnswer (hv : View h) (hs : Alike h g s s') {f : Engine → Engine} (hf : Update f) :
    SameAnswer h g (acceptWrite (f s.engine) s) (acceptWrite (f s'.engine) s') :=
  ⟨_, _, acceptWrite_next _ s, acceptWrite_next _ s', rfl, hv.update_eq hs.engine hf, hs.faults⟩

theorem writeWhenIdle_sameAnswer (hv : View h) (hs : Alike h g s s') {f : Engine → Engine} (hf : Update f) :
    SameAnswer h g (writeWhenIdle f s) (writeWhenIdle f s') := by
  rw [writeWhenIdle, writeWhenIdle, hv.status_eq hs.engine]
  split
  · exact acceptWrite_sameAnswer hv hs (.flagError .writeWhileBusy)
  · exact acceptWrite_sameAnswer hv hs hf

theorem writeKeyWhenUnlocked_sameAnswer (hv : View h) (hs : Alike h g s s') (k : Key → Key) :
    SameAnswer h g (writeKeyWhenUnlocked k s) (writeKeyWhenUnlocked k s') := by
  rw [writeKeyWhenUnlocked, writeKeyWhenUnlocked, hv.status_eq hs.engine, hv.cfg_eq hs.engine]
  split
  · exact acceptWrite_sameAnswer hv hs (.flagError .writeWhileBusy)
  · split
    · exact acceptWrite_sameAnswer hv hs (.flagError .keyLocked)
    · exact acceptWrite_sameAnswer hv hs (.key k)

/-- A shared operation gives two alike states the same answer and leaves them alike; the issuer matters only as far as `g` tells
whose a fault is. -/
theorem SharedOp.sameAnswer {o : State → StepOutcome} (ho : SharedOp o) (hv : View h) (hs : Alike h g s s')
    (hissuer : ∀ c, g { master := s.issuer, cause := c } = g { master := s'.issuer, cause := c }) :
    SameAnswer h g (o s) (o s') := by
  cases ho with
  | read r => exact readReg_sameAnswer hv hs r
  | busError c => exact busError_sameAnswer hs c (hissuer c)
  | write f hf => exact acceptWrite_sameAnswer hv hs hf
  | whenIdle f hf => exact writeWhenIdle_sameAnswer hv hs hf
  | keyWrite k => exact writeKeyWhenUnlocked_sameAnswer hv hs k

end

/-- Only an acceptance writes the working state, and it sets BUSY (R34, R132, R133). -/
theorem EngineChange.keeps_work {i : Instr} {e e' : Engine} (hc : EngineChange i e e')
    (hb : e.status.busy = e'.status.busy) : e'.work = e.work ∧ e'.cnt = e.cnt ∧ e'.n = e.n ∧ e'.op = e.op := by
  cases hc with
  | same | busy | locked | illegalWord | illegalCmd | status | cfg | rounds | data0 | data1 | key =>
    exact ⟨rfl, rfl, rfl, rfl⟩
  | accept op _ _ hidle => exact absurd (hb.symm.trans hidle) (by simp [Engine.accept])

end Sys2Proof.Machine
end

section
/-! PROOFS. What an instruction does not depend on (10_state.md R24, R34; 60_exceptions.md R213). -/

namespace Sys2Proof.Proofs.Noninterference

open Sys2Proof Sys2Proof.Machine

/-- Settles O53: blanking the working state is a view. -/
theorem workingStateIsHiddenFromTransactions : Obligations.WorkingStateIsHiddenFromTransactions := by
  intro i s e he
  obtain ⟨t, u, ht, hu, hresp, hengine, hfaults⟩ :=
    (exec_sharedOp i).sameAnswer (g := id) (s := s) (s' := { s with engine := e }) view_hideWork ⟨he.symm, rfl⟩ fun _ => rfl
  refine ⟨t, u, ht, hu, hresp, ?_, hengine, view_hideWork.irq_eq hengine, (exec_next ht).2.keeps_work⟩
  simpa only [List.map_id] using hfaults

/-- Settles O54: blanking the key is a view. -/
theorem keyIsNeverReadBack : Obligations.KeyIsNeverReadBack := by
  intro i s e he
  obtain ⟨t, u, ht, hu, hresp, hengine, hfaults⟩ :=
    (exec_sharedOp i).sameAnswer (g := id) (s := s) (s' := { s with engine := e }) view_hideKey ⟨he.symm, rfl⟩ fun _ => rfl
  refine ⟨t, u, ht, hu, hresp, ?_, hengine, view_hideKey.irq_eq hengine⟩
  simpa only [List.map_id] using hfaults

/-- Settles O55: the whole engine is a view, and a fault's cause does not name the issuer. -/
theorem outcomeDoesNotDependOnTheIssuer : Obligations.OutcomeDoesNotDependOnTheIssuer := by
  intro i s m
  obtain ⟨t, u, ht, hu, hresp, hengine, hfaults⟩ :=
    (exec_sharedOp i).sameAnswer (g := HostFault.cause) (s := s) (s' := { s with issuer := m }) view_id ⟨rfl, rfl⟩ fun _ => rfl
  exact ⟨t, u, ht, hu, hengine.symm, hresp.symm, hfaults.symm⟩

end Sys2Proof.Proofs.Noninterference
end

section
/-! SUPPORT. The operations that done twice leave what doing them once does (20_memory.md R67). -/

namespace Sys2Proof.Machine

/-- Done a second time, the operation leaves the state that the first time left. -/
def Idempotent (o : State → StepOutcome) : Prop := ∀ s, ∃ t, o s = .next t ∧ o t = .next t

theorem acceptWrite_acceptWrite (f : Engine → Engine) (hf : ∀ e, f (f e) = f e) (s : State) :
    acceptWrite (f (s.afterWrite (f s.engine)).engine) (s.afterWrite (f s.engine)) = .next (s.afterWrite (f s.engine)) :=
  congrArg (fun e => Host.Outcome.next (s.afterWrite e)) (hf s.engine)

theorem acceptWrite_idempotent (f : Engine → Engine) (hf : ∀ e, f (f e) = f e) :
    Idempotent fun s => acceptWrite (f s.engine) s :=
  fun s => ⟨s.afterWrite (f s.engine), rfl, acceptWrite_acceptWrite f hf s⟩

/-- A refusal twice is one refusal: the first error is kept (R201). -/
theorem refuseWrite_refuseWrite (p : ProtocolError) (s : State) :
    refuseWrite p (s.afterWrite (s.engine.flagError p)) = .next (s.afterWrite (s.engine.flagError p)) :=
  acceptWrite_acceptWrite (Engine.flagError p) (Engine.flagError_flagError p p) s

theorem writeWhenIdle_idempotent (f : Engine → Engine) (hf : ∀ e, f (f e) = f e) (hs : ∀ e, (f e).status = e.status) :
    Idempotent (writeWhenIdle f) := by
  intro s
  cases hb : s.engine.status.busy with
  | true =>
    refine ⟨s.afterWrite (s.engine.flagError .writeWhileBusy), writeWhenIdle_busy f s hb, ?_⟩
    rw [writeWhenIdle_busy f _ ((Status.flagError_busy _ _).trans hb), refuseWrite_refuseWrite]
  | false =>
    refine ⟨s.afterWrite (f s.engine), writeWhenIdle_idle f s hb, ?_⟩
    rw [writeWhenIdle_idle f _ ((congrArg Status.busy (hs s.engine)).trans hb)]
    exact acceptWrite_acceptWrite f hf s

theorem writeKeyWhenUnlocked_idempotent (g : Key → Key) (hg : ∀ k, g (g k) = g k) :
    Idempotent (writeKeyWhenUnlocked g) := by
  intro s
  cases hb : s.engine.status.busy with
  | true =>
    refine ⟨s.afterWrite (s.engine.flagError .writeWhileBusy), writeKeyWhenUnlocked_busy g s hb, ?_⟩
    rw [writeKeyWhenUnlocked_busy g _ ((Status.flagError_busy _ _).trans hb), refuseWrite_refuseWrite]
  | false =>
    cases hl : s.engine.cfg.keyLock with
    | true =>
      refine ⟨s.afterWrite (s.engine.flagError .keyLocked), writeKeyWhenUnlocked_locked g s hb hl, ?_⟩
      have hidle : (s.engine.flagError .keyLocked).status.busy = false := (Status.flagError_busy _ _).trans hb
      rw [writeKeyWhenUnlocked_locked g (s.afterWrite (s.engine.flagError .keyLocked)) hidle hl, refuseWrite_refuseWrite]
    | false =>
      refine ⟨s.afterWrite (s.engine.setKey (g s.engine.key)), writeKeyWhenUnlocked_unlocked g s hb hl, ?_⟩
      rw [writeKeyWhenUnlocked_unlocked g (s.afterWrite (s.engine.setKey (g s.engine.key))) hb hl]
      exact acceptWrite_acceptWrite (fun e => e.setKey (g e.key)) (fun e => congrArg e.setKey (hg e.key)) s

theorem Status.write_write (d : Word) (st : Status) : (st.write d).write d = st.write d := by
  unfold Status.write
  cases d.getLsbD 1 <;> cases d.getLsbD 2 <;> rfl

theorem Cfg.write_write (d : Word) (c : Cfg) : (c.write d).write d = c.write d := by
  unfold Cfg.write
  simp only [Bool.or_assoc, Bool.or_self]

theorem exec_readInstr_idempotent (r : Reg) : Idempotent (exec (readInstr r)) :=
  fun s => ⟨_, exec_readInstr r s, exec_readInstr r _⟩

/-- Every write but the ones to ID and CMD is idempotent. -/
theorem exec_writeInstr_idempotent (d : Word) (r : Reg) (hid : r ≠ .id) (hcmd : r ≠ .cmd) :
    Idempotent (exec (writeInstr d r)) := by
  cases r with
  | id => exact absurd rfl hid
  | cmd => exact absurd rfl hcmd
  | status =>
    exact acceptWrite_idempotent (fun e => e.setStatus (e.status.write d)) fun e =>
      congrArg e.setStatus (e.status.write_write d)
  | cfg => exact acceptWrite_idempotent (fun e => e.setCfg (e.cfg.write d)) fun e => congrArg e.setCfg (e.cfg.write_write d)
  | rounds => exact writeWhenIdle_idempotent (fun e => e.setRounds d) (fun _ => rfl) fun _ => rfl
  | data0 => exact writeWhenIdle_idempotent (fun e => e.setData0 d) (fun _ => rfl) fun _ => rfl
  | data1 => exact writeWhenIdle_idempotent (fun e => e.setData1 d) (fun _ => rfl) fun _ => rfl
  | key0 => exact writeKeyWhenUnlocked_idempotent (fun k => { k with k0 := d }) fun _ => rfl
  | key1 => exact writeKeyWhenUnlocked_idempotent (fun k => { k with k1 := d }) fun _ => rfl
  | key2 => exact writeKeyWhenUnlocked_idempotent (fun k => { k with k2 := d }) fun _ => rfl
  | key3 => exact writeKeyWhenUnlocked_idempotent (fun k => { k with k3 := d }) fun _ => rfl

end Sys2Proof.Machine
end

section
/-! SUPPORT. Runs of a POLL, and of the four key writes of SETKEY (30_encoding.md R92). -/

namespace Sys2Proof.Machine

theorem pollPasses_iff (mask val t : Word) : pollPasses mask val t = true ↔ t &&& mask = val :=
  beq_iff_eq

/-- The exchange is a read that fails the test of a POLL. -/
def PollFails (a : BitVec 6) (mask val : Word) (f : Exchange) : Prop :=
  f.txn = .readAt a ∧ f.resp.err = false ∧ f.resp.rdata &&& mask ≠ val

/-- The exchange is a read that passes the test of a POLL. -/
def PollPasses (a : BitVec 6) (mask val : Word) (e : Exchange) : Prop :=
  e.txn = .readAt a ∧ e.resp.err = false ∧ e.resp.rdata &&& mask = val

section
variable {a : BitVec 6} {mask val : Word} {p : List HostInstr} {bs : Bindings}

theorem hostRun_of_pollPasses {e : Exchange} {es : List Exchange} (h : PollPasses a mask val e) :
    hostRun (.poll a mask val :: p) (e :: es) = hostRun p es := by
  obtain ⟨ht, hr, hpass⟩ := h
  exact hostRun_poll_passes a mask val p e es ht hr ((pollPasses_iff _ _ _).2 hpass)

theorem hostRun_of_pollFails {f : Exchange} {es : List Exchange} (h : PollFails a mask val f) :
    hostRun (.poll a mask val :: p) (f :: es) = hostRun (.poll a mask val :: p) es := by
  obtain ⟨ht, hr, hfail⟩ := h
  exact hostRun_poll_fails a mask val p f es ht hr (Bool.eq_false_iff.2 (mt (pollPasses_iff _ _ _).1 hfail))

/-- The reads that fail and the one that passes are a run of the POLL (R92). -/
theorem hostRun_poll_append {fs : List Exchange} {e : Exchange} {rest : List Exchange}
    (hfs : ∀ f ∈ fs, PollFails a mask val f) (he : PollPasses a mask val e) :
    hostRun (.poll a mask val :: p) (fs ++ e :: rest) = hostRun p rest := by
  induction fs with
  | nil => exact hostRun_of_pollPasses he
  | cons f fs ih =>
    rw [List.forall_mem_cons] at hfs
    exact (hostRun_of_pollFails hfs.1).trans (ih hfs.2)

/-- Every run of a POLL has that form. -/
theorem hostRun_poll_split {es : List Exchange} (h : hostRun (.poll a mask val :: p) es = some bs) :
    ∃ fs e rest, es = fs ++ e :: rest ∧ (∀ f ∈ fs, PollFails a mask val f) ∧ PollPasses a mask val e ∧
      hostRun p rest = some bs := by
  induction es with
  | nil => simp at h
  | cons x xs ih =>
    by_cases hread : x.txn = .readAt a ∧ x.resp.err = false
    · by_cases hpass : x.resp.rdata &&& mask = val
      · have hx : PollPasses a mask val x := ⟨hread.1, hread.2, hpass⟩
        exact ⟨[], x, xs, rfl, by simp, hx, (hostRun_of_pollPasses hx).symm.trans h⟩
      · have hx : PollFails a mask val x := ⟨hread.1, hread.2, hpass⟩
        obtain ⟨fs, e, rest, rfl, hfs, hrest⟩ := ih ((hostRun_of_pollFails hx).symm.trans h)
        exact ⟨x :: fs, e, rest, rfl, List.forall_mem_cons.2 ⟨hx, hfs⟩, hrest⟩
    · simp [hostRun_poll_other a mask val p x xs hread] at h

end

/-- WAITDONE's test: BUSY and DONE are the two low bits of STATUS. -/
theorem Status.word_waitDone (st : Status) :
    st.word &&& 0x00000003#32 = 0x00000002#32 ↔ (st.busy = false ∧ st.done = true) := by
  obtain ⟨busy, done, err, code⟩ := st
  revert busy done err code
  decide

/-- WAITIDLE's test: BUSY is the lowest bit of STATUS. -/
theorem Status.word_waitIdle (st : Status) : st.word &&& 0x00000001#32 = 0x00000000#32 ↔ st.busy = false := by
  obtain ⟨busy, done, err, code⟩ := st
  revert busy done err code
  decide

/-- The lines `p` run on the agenda alone, and the key becomes `k` with nothing else of the engine changed and no host fault. -/
def SetsKey (m : Nat) (p : List HostInstr) (s : State) (k : Key) : Prop :=
  ∃ t, core.run p.length s = .next t ∧ t.engine = s.engine.setKey k ∧ t.hostFaults = s.hostFaults ∧
    runsProgram m p p.length s []

theorem setsKey_nil (m : Nat) (s : State) : SetsKey m [] s s.engine.key :=
  ⟨s, rfl, rfl, rfl, hostRun_nil_nil⟩

/-- The first key write of the lines, taken by an idle and unlocked engine. -/
theorem setsKey_cons {m : Nat} {p : List HostInstr} {s : State} {k : Key} {r : Reg} {d : Word} {g : Key → Key}
    {rest : List Event} (hg : exec (writeInstr d r) = writeKeyWhenUnlocked g) (hr : s.rstN = true)
    (hb : s.engine.status.busy = false) (hl : s.engine.cfg.keyLock = false) (ha : s.agenda = .txn m (wr r d) :: rest)
    (hp : SetsKey m p (({ s with agenda := rest, issuer := m } : State).afterWrite (s.engine.setKey (g s.engine.key))) k) :
    SetsKey m (hostWr r d :: p) s k := by
  obtain ⟨t, hrun, he, hf, hprog⟩ := hp
  have hstep : step s =
      .next (({ s with agenda := rest, issuer := m } : State).afterWrite (s.engine.setKey (g s.engine.key))) := by
    rw [step_of_decodeTxn hr ha (decodeTxn_wr r d), hg]
    exact writeKeyWhenUnlocked_unlocked g _ hb hl
  refine ⟨t, (core_run_succ p.length s _ hstep).trans hrun, he, hf, ?_⟩
  rw [runsProgram, List.length_cons, exchanges_succ m p.length s _ hstep, exchangeOf_txn m s _ _ rest _ ha rfl,
    List.singleton_append, hostWr, hostRun_write]
  exact (if_pos rfl).trans hprog

theorem setKey_setsKey (m : Nat) (k : Key) (s : State) (hr : s.rstN = true) (ha : s.agenda = issue m 0 (setKey k))
    (hb : s.engine.status.busy = false) (hl : s.engine.cfg.keyLock = false) : SetsKey m (setKey k) s k :=
  setsKey_cons (g := fun key => { key with k0 := k.k0 }) rfl hr hb hl ha <|
    setsKey_cons (g := fun key => { key with k1 := k.k1 }) rfl hr hb hl rfl <|
      setsKey_cons (g := fun key => { key with k2 := k.k2 }) rfl hr hb hl rfl <|
        setsKey_cons (g := fun key => { key with k3 := k.k3 }) rfl hr hb hl rfl <|
          setsKey_nil m _

end Sys2Proof.Machine
end

section
/-! PROOFS. What a host program relies on (20_memory.md R67, 30_encoding.md R92). -/

namespace Sys2Proof.Proofs.HostPrograms

open Sys2Proof Sys2Proof.Machine

/-- Settles O56: the listed instructions are writes to nine registers and the reads; an acceptance leaves the engine busy, which
refuses the second command. -/
theorem idempotentTransactions : Obligations.IdempotentTransactions := by
  refine fun d s => ⟨?_, fun hidle => ⟨_, exec_enc_idle s hidle, exec_protected_busy .enc _ rfl rfl⟩⟩
  show ∀ i ∈ [Reg.data0, .data1, .key0, .key1, .key2, .key3, .rounds, .cfg, .status].map (writeInstr d) ++
    [Reg.id, .cmd, .status, .cfg, .rounds, .key0, .key1, .key2, .key3, .data0, .data1].map readInstr, _
  rw [List.forall_mem_append, List.forall_mem_map, List.forall_mem_map]
  refine ⟨fun r hr => ?_, fun r _ => exec_readInstr_idempotent r s⟩
  refine exec_writeInstr_idempotent d r ?_ ?_ s <;>
    · rintro rfl
      simp at hr

/-- Settles O60: the expansions are those of the table, a POLL's runs are taken apart at its first passing read, and SETKEY's
four lines run one by one. -/
theorem setKeyAndWaitDoneExpandAsStated : Obligations.SetKeyAndWaitDoneExpandAsStated := by
  refine ⟨⟨rfl, rfl, rfl, rfl, rfl, rfl, rfl, rfl, fun _ => rfl, fun _ _ _ _ _ => rfl⟩,
    fun a mask val p es bs => ⟨fun h => ?_, ?_⟩, fun st => ⟨st.word_waitDone, st.word_waitIdle⟩,
    fun s m k hr ha hb hl => setKey_setsKey m k s hr ha hb hl⟩
  · obtain ⟨fs, e, rest, hes, hfs, ⟨ht, hr, hpass⟩, hrest⟩ := hostRun_poll_split h
    exact ⟨fs, e, rest, hes, hfs, ht, hr, hpass, hrest⟩
  · rintro ⟨fs, e, rest, rfl, hfs, ht, hr, hpass, hrest⟩
    exact (hostRun_poll_append hfs ⟨ht, hr, hpass⟩).trans hrest

end Sys2Proof.Proofs.HostPrograms
end
